-- ==== Sys2Proof/Word.lean ====
section
/-! DEFINITION. The words of the part's links and counters, and the small containers the model uses. -/

namespace Sys2Proof

/-- One byte of a frame or record. -/
abbrev Byte := BitVec 8

/-- A 32-bit count that wraps: sequence numbers, exposure numbers, time stamps. -/
abbrev Word32 := BitVec 32

/-- One of four like things: the marker inputs MK1..MK4 (spec 3.5) or the track slots 0..3 (spec 6.1). -/
inductive Ix where
  | n0
  | n1
  | n2
  | n3
  deriving DecidableEq, Repr

/-- The four places in ascending order. -/
def Ix.all : List Ix := [.n0, .n1, .n2, .n3]

/-- The number of a place, 0..3. -/
def Ix.num : Ix → Nat
  | .n0 => 0
  | .n1 => 1
  | .n2 => 2
  | .n3 => 3

/-- A track slot, 0..3. -/
abbrev Slot := Ix

/-- A marker input, MK1 being `n0` and MK4 being `n3`. -/
abbrev Marker := Ix

/-- Four like things, one for each place. -/
structure Four (α : Type) where
  e0 : α
  e1 : α
  e2 : α
  e3 : α
  deriving DecidableEq, Repr

/-- The thing at a place. -/
def Four.get {α : Type} (f : Four α) : Ix → α
  | .n0 => f.e0
  | .n1 => f.e1
  | .n2 => f.e2
  | .n3 => f.e3

/-- The same four things with the one at a place replaced. -/
def Four.set {α : Type} (f : Four α) (i : Ix) (x : α) : Four α :=
  match i with
  | .n0 => { f with e0 := x }
  | .n1 => { f with e1 := x }
  | .n2 => { f with e2 := x }
  | .n3 => { f with e3 := x }

/-- Four equal things. -/
def Four.const {α : Type} (x : α) : Four α := ⟨x, x, x, x⟩

/-- A function of the place applied at every place. -/
def Four.tabulate {α : Type} (f : Ix → α) : Four α := ⟨f .n0, f .n1, f .n2, f .n3⟩

/-- Each thing changed by a function. -/
def Four.map {α β : Type} (f : α → β) (x : Four α) : Four β := ⟨f x.e0, f x.e1, f x.e2, f x.e3⟩

/-- The four things in ascending place. -/
def Four.toList {α : Type} (f : Four α) : List α := [f.e0, f.e1, f.e2, f.e3]

/-- A camera head: A at the left end of the beam, B at the right (spec 1.1). -/
inductive Head where
  | a
  | b
  deriving DecidableEq, Repr

/-- One thing for each camera head. -/
structure Pair (α : Type) where
  a : α
  b : α
  deriving DecidableEq, Repr

/-- The thing of one head. -/
def Pair.get {α : Type} (p : Pair α) : Head → α
  | .a => p.a
  | .b => p.b

/-- The same pair with one head's thing replaced. -/
def Pair.set {α : Type} (p : Pair α) (h : Head) (x : α) : Pair α :=
  match h with
  | .a => { p with a := x }
  | .b => { p with b := x }

end Sys2Proof
end

