-- ==== Sys2Proof/Config.lean ====
section
/-! DEFINITION. What identifies the part (R168) and the free value the manual leaves open (R177). -/

namespace Sys2Proof

/-- FREE VALUE (log entry 8). What the non-volatile calibration block reads after a power-on reset that ended a
store before its write had completed. R177 says only that such a block fails its check; the model's one use of it
(`tornBlock` of Machine/Calibration.lean) makes that so and leaves the rest open. The argument is the count
`State.free`, so that two such resets need not leave the same bytes. -/
opaque Config.tornBlock : Nat → List Byte

/-- R168, vendor code. -/
def Config.vendorCode : Nat := 0x0A17

/-- R168, part code. -/
def Config.partCode : Nat := 430

/-- R168, revision. -/
def Config.revision : Nat := 1

end Sys2Proof
end

