-- ==== Sys2Proof/Machine/Arith.lean ====
section
/-! DEFINITION. Rounding (R71), clamps, the integer square root (R81), sorting by keys, little-endian bytes (R197) and
the two CRCs (R199). -/

namespace Sys2Proof.Machine

/-- R71: the quotient rounded half away from zero, for a denominator of either sign. -/
def roundDiv (n d : Int) : Int :=
  let q : Int := ((2 * n.natAbs + d.natAbs) / (2 * d.natAbs) : Nat)
  if n < 0 ↔ d < 0 then q else -q

/-- The nearer end of a range for a value outside it (spec 00, Arithmetic). -/
def clamp (lo hi v : Int) : Int := if v < lo then lo else if hi < v then hi else v

/-- Bits `k - 1` down to 0 of the root, added to the root found so far while the square still fits. -/
def isqrtFrom (n : Nat) : Nat → Nat → Nat
  | 0, root => root
  | k + 1, root =>
    let next := root + 2 ^ k
    if next * next ≤ n then isqrtFrom n k next else isqrtFrom n k root

/-- R81, step 2: the greatest integer whose square does not exceed `n`, for `n` below 2⁶⁴. -/
def isqrt (n : Nat) : Nat := isqrtFrom n 32 0

/-- A count that stops at an end value (spec 00, Arithmetic). -/
def satAdd (limit a b : Nat) : Nat := min limit (a + b)

/-- `a` before `b` or level with it, comparing keys place by place. -/
def keyLe : List Int → List Int → Bool
  | [], _ => true
  | _ :: _, [] => false
  | a :: as, b :: bs => if a < b then true else if b < a then false else keyLe as bs

/-- One element put before the first that does not precede it. -/
def insertByKey {α : Type} (key : α → List Int) (x : α) : List α → List α
  | [] => [x]
  | y :: ys => if keyLe (key x) (key y) then x :: y :: ys else y :: insertByKey key x ys

/-- A list in ascending key; elements of equal key keep their order. -/
def sortByKey {α : Type} (key : α → List Int) : List α → List α
  | [] => []
  | x :: xs => insertByKey key x (sortByKey key xs)

/-- The elements of a list with their places, from `n` upward. -/
def numbered {α : Type} (n : Nat) : List α → List (Nat × α)
  | [] => []
  | x :: xs => (n, x) :: numbered (n + 1) xs

/-- R197: a number as `w` bytes, least significant first, in two's complement. -/
def toBytes : Nat → Int → List Byte
  | 0, _ => []
  | w + 1, v => BitVec.ofInt 8 v :: toBytes w (v / 256)

/-- R197: the number that bytes hold, least significant first. -/
def natOfBytes : List Byte → Nat
  | [] => 0
  | b :: bs => b.toNat + 256 * natOfBytes bs

/-- R197: the number that bytes hold, signed when the field's range includes negative values. -/
def ofBytes (signed : Bool) (bs : List Byte) : Int :=
  let n := natOfBytes bs
  if signed && decide (256 ^ bs.length ≤ 2 * n) then (n : Int) - (256 ^ bs.length : Nat) else n

/-- A yes/no field (R197). -/
def flagByte (b : Bool) : Byte := if b then 1 else 0

/-- A bit mask of up to eight members, bit 0 the first (R197). -/
def maskOf : List Bool → Nat
  | [] => 0
  | b :: bs => (if b then 1 else 0) + 2 * maskOf bs

/-- The presence mask or set as its byte. -/
def maskByte (bs : List Bool) : Byte := BitVec.ofNat 8 (maskOf bs)

/-- Eight shifts of the CRC-16 register (R199). -/
def crc16Shift : Nat → BitVec 16 → BitVec 16
  | 0, r => r
  | k + 1, r => crc16Shift k (if r.msb then (r <<< 1) ^^^ 0x1021#16 else r <<< 1)

/-- R199: the CRC-16 register after a list of bytes. -/
def crc16From : BitVec 16 → List Byte → BitVec 16
  | r, [] => r
  | r, b :: bs => crc16From (crc16Shift 8 (r ^^^ (b.setWidth 16 <<< 8))) bs

/-- R161, R199: the CRC-16 of a frame's length, kind and payload bytes. -/
def crc16 (bs : List Byte) : BitVec 16 := crc16From 0xFFFF#16 bs

/-- Eight shifts of the CRC-32 register (R199). -/
def crc32Shift : Nat → BitVec 32 → BitVec 32
  | 0, r => r
  | k + 1, r => crc32Shift k (if r.msb then (r <<< 1) ^^^ 0x04C11DB7#32 else r <<< 1)

/-- R199: the CRC-32 register after a list of bytes. -/
def crc32From : BitVec 32 → List Byte → BitVec 32
  | r, [] => r
  | r, b :: bs => crc32From (crc32Shift 8 (r ^^^ (b.setWidth 32 <<< 24))) bs

/-- R173, R199: the CRC-32 of the calibration fields. -/
def crc32 (bs : List Byte) : BitVec 32 := ~~~ (crc32From 0xFFFFFFFF#32 bs)

end Sys2Proof.Machine
end

