-- ==== Sys2Proof/Syntax.lean ====
section
/-! DEFINITION. The commands: one constructor for each row of spec/opcode_table.json. -/

namespace Sys2Proof

/-- The levels the part finds on its inputs at power-on; active or high is `true`. -/
structure PinLevels where
  rate1 : Bool
  rate0 : Bool
  encA : Bool
  encB : Bool
  markers : Four Bool
  trigIn : Bool
  lasAck : Bool
  rsvRdy : Bool
  deriving DecidableEq, Repr

/-- The encoder line of a valid edge (R41). -/
inductive EncoderLine where
  | encA
  | encB
  deriving DecidableEq, Repr

/-- The reasons of R162 other than GAP. -/
inductive HostFrameFault where
  | length
  | byteError
  | crc
  deriving DecidableEq, Repr

/-- What went wrong with a head frame: abandoned for its length or a framing error (R2), or a frame received whole,
given by its kind, payload and received CRC-16, that R3 checks. -/
inductive HeadFrameFault where
  | length
  | byteError
  | whole (kind : Byte) (payload : List Byte) (crc : BitVec 16)
  deriving DecidableEq, Repr

/-- The commands. A host request carries the payload bytes of its frame; a SET_GROUP command carries the bytes after
the group code, which the row itself gives. A command that may decide a trigger or refresh live slot 3 carries the
level of RSV_RDY at its moment (log entry 4). -/
inductive Instr where
  | powerOnReset (pins : PinLevels) (storeWritten : Bool)
  | calLoadDone
  | identify (payload : List Byte)
  | status (payload : List Byte)
  | setGroupExposure (set : List Byte)
  | setGroupOdometry (set : List Byte)
  | setGroupAttitude (set : List Byte)
  | setGroupMarkers (set : List Byte)
  | setGroupTracking (set : List Byte)
  | setGroupLine (set : List Byte)
  | setGroupWireTypes (set : List Byte)
  | setGroupReporting (set : List Byte)
  | getGroup (payload : List Byte)
  | startRun (payload : List Byte)
  | stopRun (payload : List Byte)
  | exposeOnce (payload : List Byte) (rsvRdy : Bool)
  | operatorMark (payload : List Byte)
  | readLive (payload : List Byte)
  | fetchSpans (payload : List Byte)
  | fetchEvents (payload : List Byte)
  | ackAttention (payload : List Byte)
  | readFaults (payload : List Byte)
  | clearFaults (payload : List Byte)
  | writeCal (payload : List Byte)
  | readCal (payload : List Byte)
  | storeCal (payload : List Byte)
  | calStoreDone (readBack : List Byte)
  | calTemperature (payload : List Byte)
  | resetPart (payload : List Byte)
  | unknownRequest (kind : Byte) (payload : List Byte)
  | hostFrameError (reason : HostFrameFault)
  | hostByteGapTimeout
  | hostTxFrameDone
  | armFrameSent (head : Head)
  | returnsFrameReceived (head : Head) (payload : List Byte) (rsvRdy : Bool)
  | headFrameError (head : Head) (what : HeadFrameFault)
  | headByteGapTimeout (head : Head)
  | headTimeout (tag : Byte) (rsvRdy : Bool)
  | trigInChange
  | trigInFilterExpiry (rsvRdy : Bool)
  | periodTimerExpiry (rsvRdy : Bool)
  | burstPulseTimer
  | lasAckChange
  | stuckTimerExpiry
  | ackCountDecision
  | blankOutEnd
  | chargeGuardExpiry
  | encoderValidEdge (line : EncoderLine) (rsvRdy : Bool)
  | encoderPhaseError
  | phaseDecayTimer
  | speedGate
  | markerInputChange (marker : Marker)
  | markerDebounceExpiry (marker : Marker)
  | adcConversionDone (code : BitVec 24)
  | attnPulseEnd
  | hostRxPreamble
  | headRxPreamble (head : Head)
  deriving DecidableEq, Repr

end Sys2Proof
end

