-- ==== Sys2Proof/Machine/State.lean ====
section
/-! DEFINITION. The whole state of the part as plain data, block by block, and the machine after reset. -/

namespace Sys2Proof.Machine

/-! ### Run Controller (spec 8) -/

/-- R136. The order is the code order of R197. -/
inductive RunState where
  | stopped
  | armed
  | measuring
  | paused
  | faulted
  deriving DecidableEq, Repr

/-- R146, R197. -/
inductive RunCause where
  | startRun
  | stopRun
  | firstMast
  | reverse
  | forwardResumed
  | haltingFault
  deriving DecidableEq, Repr

/-- The 23 fault codes of R179, in code order. -/
inductive FaultCode where
  | headSilent
  | headLost
  | headsLost
  | headLate
  | headFrame
  | returnsTruncated
  | pulseCount
  | driveStuck
  | reservoirLow
  | assemblyFull
  | triggerOverrun
  | odoPhase
  | odoLost
  | attStale
  | attOverrange
  | tempRange
  | trackSlotsFull
  | wireLoss
  | queueLoss
  | linkFrame
  | linkOverrun
  | calInvalid
  | calStoreFail
  deriving DecidableEq, Repr

/-- The run state, run number and the cause of the last change with its fault code (R136, R144, R169). -/
structure Run where
  state : RunState
  number : Nat
  cause : Option RunCause
  causeFault : Option FaultCode
  deriving DecidableEq, Repr

/-! ### Configuration groups (spec 2.1, 3.1, 3.5, 4.1, 6.2, 7.1, 9.3); numbers are in the carried steps of R197 -/

/-- R21. -/
inductive TrigMode where
  | distance
  | external
  | timed
  | single
  deriving DecidableEq, Repr

/-- The EXPOSURE group (spec 2.1): `onTime`, `offTime` in 0.5 µs, `blankOut` in 10 µs, `dedupDx`, `dedupDz` in
0.1 mm, `period`, `headTimeout` in ms, `stuckWindow`, `chargeGuard` in µs, `pitch` in mm. -/
structure ExposureSet where
  mode : TrigMode
  pitch : Nat
  period : Nat
  pulses : Nat
  onTime : Nat
  offTime : Nat
  blankOut : Nat
  stuckWindow : Nat
  chargeGuard : Nat
  quiet : Bool
  headTimeout : Nat
  dedupDx : Nat
  dedupDz : Nat
  deriving DecidableEq, Repr

/-- The ODOMETRY group (spec 3.1); `inverted` is the encoder sense, `reversed` the orientation. -/
structure OdometrySet where
  nmPerCount : Nat
  inverted : Bool
  reverseDistance : Nat
  reversed : Bool
  deriving DecidableEq, Repr

/-- The ATTITUDE group (spec 4.1), maximum age in ms. -/
structure AttitudeSet where
  osr : Nat
  maxAge : Nat
  deriving DecidableEq, Repr

/-- The mast source setting (spec 3.5). -/
inductive MastSetting where
  | mk1
  | mk2
  | either
  | both
  deriving DecidableEq, Repr

/-- The overlap mode (R56). -/
inductive OverlapMode where
  | off
  | level
  | toggle
  deriving DecidableEq, Repr

/-- The MARKERS group (spec 3.5), qualify distances in mm. -/
structure MarkerSet where
  debounce : Four Bool
  qualify : Four Nat
  mast : MastSetting
  overlap : OverlapMode
  siteMarks : Bool
  deriving DecidableEq, Repr

/-- The TRACKING group (spec 6.2), distances in mm, wear resolution in µm. -/
structure TrackingSet where
  accept : Nat
  hysteresis : Nat
  staggerGate : Nat
  heightGate : Nat
  mergeStagger : Nat
  mergeHeight : Nat
  confirmHits : Nat
  coastDistance : Nat
  duplicateLength : Nat
  windowLow : Nat
  windowHigh : Nat
  overlapLift : Nat
  wearResolution : Nat
  deriving DecidableEq, Repr

/-- The LINE group (spec 7.1): limits in mm, wear hysteresis in µm, span and wire-loss lengths in m. -/
structure LineSet where
  wireType : Nat
  staggerLimit : Nat
  staggerHyst : Nat
  heightLow : Nat
  heightHyst : Nat
  wearHyst : Nat
  spanMin : Nat
  spanMax : Nat
  wireLoss : Nat
  wiresPerLine : Nat
  deriving DecidableEq, Repr

/-- One entry of WIRE_TYPES (R114). Every diameter is even (R80) and is carried in steps of 2 µm, so the entry holds
the radius in µm. -/
structure WireType where
  radius : Nat
  minRemaining : Nat
  code : Nat
  deriving DecidableEq, Repr

/-- The five attention causes in the order of R157. -/
structure Causes where
  spanAvailable : Bool
  eventAvailable : Bool
  queueLoss : Bool
  fault : Bool
  runState : Bool
  deriving DecidableEq, Repr

/-- The REPORTING group (spec 9.3). -/
structure ReportingSet where
  streaming : Bool
  spanMark : Nat
  mask : Causes
  deriving DecidableEq, Repr

/-- The eight groups (spec 10.7) with the two staged sets (R38, R113). -/
structure Groups where
  exposure : ExposureSet
  stagedExposure : Option ExposureSet
  odometry : OdometrySet
  attitude : AttitudeSet
  markers : MarkerSet
  tracking : TrackingSet
  line : LineSet
  stagedLine : Option LineSet
  wireTypes : Four WireType
  reporting : ReportingSet
  deriving DecidableEq, Repr

/-! ### Calibration Store (spec 10.9) -/

/-- The working copy, field by field in the order of R173. -/
structure CalFields where
  lA : Int
  lB : Int
  hb : Int
  spacing : Int
  gainVL : Int
  gainVR : Int
  gainLAT : Int
  zeroVL : Int
  zeroVR : Int
  zeroLAT : Int
  alpha : Int
  t0 : Int
  codeRef : Int
  tRef : Int
  fieldALow : Int
  fieldAHigh : Int
  fieldBLow : Int
  fieldBHigh : Int
  serial : Int
  deriving DecidableEq, Repr

/-- The last store result (R173). -/
inductive StoreResult where
  | none
  | verified
  | failed
  deriving DecidableEq, Repr

/-- What the Calibration Store keeps (R173): `valid` is the calibration status, `storing` the store state, `block` the
63 bytes of the non-volatile block (R199). -/
structure Calibration where
  work : CalFields
  valid : Bool
  modified : Bool
  storing : Bool
  lastResult : StoreResult
  block : List Byte
  deriving DecidableEq, Repr

/-! ### Links (spec 1.1, 10.1 to 10.5) -/

/-- A receiver's condition (R2, R162). -/
inductive Receiver where
  | hunting
  | inFrame
  deriving DecidableEq, Repr

/-- The request handling's condition (R163). -/
inductive Handling where
  | starting
  | openForRequests
  | heldForStop
  | heldForTemperature
  | closing
  deriving DecidableEq, Repr

/-- A frame of the host link: its kind and payload bytes (R161, R198). -/
structure Frame where
  kind : Byte
  payload : List Byte
  deriving DecidableEq, Repr

/-- The reset kind of the READY_REPORT (R167). -/
inductive ResetKind where
  | powerOn
  | soft
  deriving DecidableEq, Repr

/-- The Host Link Controller. `rate` is the bit rate in bit/s (R160); the four counters are those of R162; `slot` is
the reply slot (R163); `tx` is the frame in transmission (R166); `stopClosed` is the closed span number that the reply
of a held STOP_RUN will carry (R140); `resetDue` says that the soft reset of R172 waits for an ARM frame. -/
structure Link where
  rate : Nat
  receiver : Receiver
  errGap : Nat
  errLength : Nat
  errByte : Nat
  errCrc : Nat
  handling : Handling
  slot : Option Frame
  tx : Option Frame
  readyPending : Bool
  resetKind : ResetKind
  stopClosed : Option Word32
  resetDue : Bool
  deriving DecidableEq, Repr

/-- An ARM frame in transmission on a head link: the tag it carries and the moment its last byte leaves (R1, R30). -/
structure ArmFrame where
  tag : Byte
  due : Nat
  deriving DecidableEq, Repr

/-- A Head Link Interface: receiver (R2), the ARM frame in transmission (R1), condition LIVE as `live` and silence count
(R4). -/
structure HeadLink where
  receiver : Receiver
  arm : Option ArmFrame
  live : Bool
  silence : Nat
  deriving DecidableEq, Repr

/-! ### Scan Assembler (spec 1.3) -/

/-- The scan flags in the order of R189. -/
structure ScanFlags where
  headAAbsent : Bool
  headBAbsent : Bool
  illumShort : Bool
  illumStuck : Bool
  attStale : Bool
  attNone : Bool
  tempHeld : Bool
  uncalibrated : Bool
  deriving DecidableEq, Repr

/-- R6. -/
inductive Phase where
  | allocated
  | waiting
  | complete
  | timedOut
  deriving DecidableEq, Repr

/-- A return as a head sent it (spec 1.1), with its place in the frame. -/
structure HeadReturn where
  xh : Int
  zh : Nat
  wh : Nat
  peak : Nat
  saturated : Bool
  place : Nat
  deriving DecidableEq, Repr

/-- Roll in µrad, bounce and lateral shift in µm (R63). -/
structure Snapshot where
  roll : Int
  bounce : Int
  lateral : Int
  deriving DecidableEq, Repr

/-- An assembly entry in use (spec 1.3); `windowEnd` is a moment of the clock. -/
structure Entry where
  exposure : Word32
  phase : Phase
  expected : Pair Bool
  delivered : Pair Bool
  headTimeout : Nat
  dedupDx : Nat
  dedupDz : Nat
  reversed : Bool
  position : Int
  windowEnd : Option Nat
  snapshot : Snapshot
  strain : Int
  flags : ScanFlags
  returnsA : List HeadReturn
  returnsB : List HeadReturn
  deriving DecidableEq, Repr

/-! ### Exposure Controller (spec 2) -/

/-- R20. -/
inductive ExpoState where
  | ready
  | arming
  | window
  | blank
  deriving DecidableEq, Repr

/-- An input filter (R24, R50): the accepted level, absent until the level found at reset has held, and the end of the
hold time in progress. -/
structure Filter where
  accepted : Option Bool
  due : Option Nat
  deriving DecidableEq, Repr

/-- The acknowledge count of an exposure (R32); `due` is its decision, set at window end. -/
structure AckCount where
  exposure : Word32
  pulses : Nat
  count : Nat
  due : Option Nat
  deriving DecidableEq, Repr

/-- The burst in progress (R31): pulses still to end, whether the pulse is in its on-time, and the end of that time. -/
structure Burst where
  left : Nat
  on : Bool
  due : Nat
  deriving DecidableEq, Repr

/-- The Exposure Controller. The next grid point is `gridBase` plus the active pitch (R22). -/
structure Expo where
  state : ExpoState
  counter : Word32
  skipped : Nat
  gridBase : Int
  periodDue : Option Nat
  trigFilter : Filter
  burst : Option Burst
  stuckDue : Option Nat
  ack : Option AckCount
  blankDue : Option Nat
  guardDue : Option Nat
  expSync : Bool
  lasDrv : Bool
  chgEn : Bool
  deriving DecidableEq, Repr

/-! ### Odometer Interface and Marker Logic (spec 3) -/

/-- R45, in the code order of R204. -/
inductive Direction where
  | standstill
  | forward
  | backward
  deriving DecidableEq, Repr

/-- The Odometer Interface. `history` holds the accumulator at the last ten gates, the oldest first (R45). -/
structure Odo where
  acc : Int
  history : List Int
  speed : Int
  direction : Direction
  furthest : Int
  backTravel : Bool
  phaseLevel : Nat
  gateDue : Nat
  decayDue : Nat
  deriving DecidableEq, Repr

/-- R51. -/
inductive ChannelState where
  | idle
  | pending
  | qualified
  | held
  deriving DecidableEq, Repr

/-- A marker channel (spec 3.6). -/
structure Channel where
  filter : Filter
  state : ChannelState
  assertedAt : Int
  target : Int
  deriving DecidableEq, Repr

/-- A mast source, in the code order of R197. -/
inductive Source where
  | none
  | mk1
  | mk2
  | both
  deriving DecidableEq, Repr

/-- The mast signal's state (spec 3.7). -/
inductive MastState where
  | idle
  | pending
  | qualified
  deriving DecidableEq, Repr

/-- The mast source (spec 3.7). -/
structure Mast where
  state : MastState
  candidate : Int
  source : Source
  deriving DecidableEq, Repr

/-- Marker Logic. -/
structure Markers where
  channels : Four Channel
  mast : Mast
  zone : Bool
  deriving DecidableEq, Repr

/-! ### Attitude Converter (spec 4) -/

/-- The four inputs of the converter, in the order of a round (R61). -/
inductive AdcChannel where
  | vl
  | vr
  | lat
  | temp
  deriving DecidableEq, Repr

/-- A latest good reading and its completion time in µs since the last reset (R60). -/
structure Reading where
  value : Int
  time : Nat
  deriving DecidableEq, Repr

/-- An attitude channel (R60). -/
structure AttChannel where
  good : Option Reading
  discarded : Bool
  deriving DecidableEq, Repr

/-- The Attitude Converter. `first` is the forward code while the reversed conversion runs; `osr` governs the reading in
progress (R59); `beam` is absent until the first TEMP reading within range, and T0 stands for it (R66). -/
structure Attitude where
  channel : AdcChannel
  first : Option Int
  round : Nat
  osr : Nat
  due : Nat
  vl : AttChannel
  vr : AttChannel
  lat : AttChannel
  temp : Option Int
  beam : Option Int
  held : Bool
  calTemp : Option Int
  deriving DecidableEq, Repr

/-! ### Wire Tracker (spec 6) -/

/-- R88. -/
inductive TrackState where
  | free
  | tentative
  | confirmed
  | coasting
  deriving DecidableEq, Repr

/-- R80, in the code order of R197. -/
inductive WearIndication where
  | saturated
  | widthImplausible
  | belowResolution
  | sample
  deriving DecidableEq, Repr

/-- R82. -/
structure WearSample where
  remaining : Nat
  depth : Nat
  perMille : Nat
  wireType : Nat
  deriving DecidableEq, Repr

/-- A track record (spec 6.1). -/
structure Track where
  state : TrackState
  wireId : Option Nat
  lastS : Int
  lastH : Int
  rate : Int
  lastHit : Int
  hits : Nat
  coasted : Nat
  wear : List WearSample
  mergedWith : Option Slot
  previousPartner : Option Slot
  mergedDistance : Int
  peak : Option Nat
  indication : Option WearIndication
  deriving DecidableEq, Repr

/-- The Wire Tracker. -/
structure Tracker where
  tracks : Four Track
  nextId : Nat
  lastScan : Int
  deriving DecidableEq, Repr

/-! ### Span Builder (spec 7) -/

/-- R128, in the code order of R197. -/
inductive CloseReason where
  | mast
  | longSpan
  | reverse
  | runEnd
  | fault
  deriving DecidableEq, Repr

/-- Reported extremes of a summary, 0.1 mm. -/
structure Extremes where
  sMin : Int
  sMax : Int
  hMin : Int
  hMax : Int
  deriving DecidableEq, Repr

/-- A registration stagger with its predicted marker (R122). -/
structure Registration where
  value : Int
  predicted : Bool
  deriving DecidableEq, Repr

/-- A minimum remaining height with its position (R119). -/
structure MinRemaining where
  height : Nat
  position : Int
  deriving DecidableEq, Repr

/-- A track summary (spec 7.2). -/
structure Summary where
  wireId : Nat
  presentAtOpen : Bool
  presentAtClose : Bool
  firstPos : Int
  lastPos : Int
  hits : Nat
  coasted : Nat
  extremes : Option Extremes
  sAtOpen : Option Registration
  sAtClose : Option Registration
  minRemaining : Option MinRemaining
  excOpened : Nat
  deriving DecidableEq, Repr

/-- A span record (spec 7.2), open, provisional or queued. What an open or provisional record does not have yet is 0
or NONE. -/
structure SpanRec where
  seq : Word32
  gap : Word32
  run : Nat
  start : Int
  stop : Int
  reason : CloseReason
  openSource : Source
  closeSource : Source
  wireType : Nat
  wireCode : Nat
  spanMin : Nat
  spanMax : Nat
  overlapSeen : Bool
  extraWire : Bool
  uncalibrated : Bool
  truncated : Bool
  scans : Nat
  degraded : Nat
  skipped : Nat
  ignored : Nat
  rejected : Nat
  summaries : List Summary
  deriving DecidableEq, Repr

/-- The pending candidate with its LONG_SPAN due mark (R115). -/
structure Candidate where
  position : Int
  source : Source
  longDue : Bool
  deriving DecidableEq, Repr

/-- R130, in the code order of R197. -/
inductive MonitorKind where
  | stagger
  | heightLow
  | wear
  deriving DecidableEq, Repr

/-- What an OPEN monitor holds (R130). -/
structure Monitor where
  wireId : Nat
  openPos : Int
  peak : Int
  peakPos : Int
  deriving DecidableEq, Repr

/-- The three monitors of a slot; absent means CLOSED. -/
structure Monitors where
  stagger : Option Monitor
  heightLow : Option Monitor
  wear : Option Monitor
  deriving DecidableEq, Repr

/-- One slot of the wire view (R115). -/
structure ViewEntry where
  state : TrackState
  wireId : Option Nat
  deriving DecidableEq, Repr

/-- The Span Builder (R115). -/
structure SpanBuilder where
  opened : Option SpanRec
  provisional : Option SpanRec
  candidate : Option Candidate
  seq : Word32
  monitors : Four Monitors
  watchArmed : Bool
  watchRef : Int
  view : Four ViewEntry
  deriving DecidableEq, Repr

/-! ### Output Buffers and Fault Monitor (spec 9, 11) -/

/-- A fault's value as R201 carries it. -/
structure FaultValue where
  qualifier : Nat
  number : Int
  deriving DecidableEq, Repr

/-- R179. -/
inductive FaultClass where
  | notice
  | degrading
  | halting
  deriving DecidableEq, Repr

/-- A fault record (R178) with the code's span mark and run mark. -/
structure FaultRecord where
  count : Nat
  first : Option Int
  last : Option Int
  value : Option FaultValue
  spanMark : Bool
  runMark : Bool
  deriving DecidableEq, Repr

/-- The outcome of a MAST event (R121, R123). -/
inductive MastOutcome where
  | ignored
  | qualified
  deriving DecidableEq, Repr

/-- R105, R109. -/
inductive EndReason where
  | coastedOut
  | duplicate
  deriving DecidableEq, Repr

/-- R132, R133. -/
inductive ExcReason where
  | returned
  | trackEnded
  | runEnd
  | typeChanged
  deriving DecidableEq, Repr

/-- The kinds of event with their own fields (R152). -/
inductive EventBody where
  | runState (previous new : RunState) (cause : RunCause) (run : Nat) (fault : Option FaultCode)
      (closed : Option Word32) (furthest : Option Int)
  | mast (outcome : MastOutcome) (candidate : Int) (source : Source) (qualified : Option Int)
      (closed : Option Word32)
  | overlapBegin
  | overlapEnd
  | siteMark (assertedAt : Int)
  | operatorMark (code : Byte)
  | trackConfirmed (slot : Slot) (wireId : Nat) (stagger height : Int)
  | trackEnded (slot : Slot) (wireId : Nat) (reason : EndReason) (lastHit : Int) (survivor : Option Nat)
  | excOpen (kind : MonitorKind) (slot : Slot) (wireId : Nat) (value : Int)
  | excClose (kind : MonitorKind) (slot : Slot) (wireId : Nat) (reason : ExcReason) (openPos peak peakPos : Int)
      (length : Int)
  | fault (code : FaultCode) (value : FaultValue) (count : Nat)
  deriving DecidableEq, Repr

/-- An event (R152). -/
structure Event where
  seq : Word32
  gap : Word32
  position : Int
  time : Word32
  body : EventBody
  deriving DecidableEq, Repr

/-- The span queue (R148, R149), oldest record first; the in-flight record is the oldest. -/
structure SpanQueue where
  items : List SpanRec
  lastStored : Word32
  lost : Word32
  inFlight : Bool
  deriving DecidableEq, Repr

/-- The event queue (R151), oldest event first. -/
structure EventQueue where
  items : List Event
  seq : Word32
  lastStored : Word32
  lost : Word32
  deriving DecidableEq, Repr

/-- The queues, the latched attention causes, the pulse, ATTN_N and the fault records in code order. The two level
causes are conditions of the queues (R157) and are not stored. -/
structure Report where
  spans : SpanQueue
  events : EventQueue
  lossCause : Bool
  faultCause : Bool
  runCause : Bool
  pulseDue : Option Nat
  attn : Bool
  faults : List FaultRecord
  deriving DecidableEq, Repr

/-- Live slot 0 (R155, R204). -/
structure LiveTravel where
  position : Int
  speed : Int
  direction : Direction
  run : RunState
  fresh : Bool
  deriving DecidableEq, Repr

/-- The case of R64. -/
inductive AgeCase where
  | fresh
  | stale
  | none
  deriving DecidableEq, Repr

/-- Live slot 1 (R65). -/
structure LiveAttitude where
  snapshot : Snapshot
  ageMs : Nat
  ageCase : AgeCase
  discardedVL : Bool
  discardedVR : Bool
  discardedLAT : Bool
  fresh : Bool
  deriving DecidableEq, Repr

/-- Live slot 2 (R67). -/
structure LiveTemp where
  temperature : Int
  strain : Int
  held : Bool
  fresh : Bool
  deriving DecidableEq, Repr

/-- Live slot 3 (R155). -/
structure LiveExpo where
  counter : Word32
  skipped : Nat
  flags : ScanFlags
  exposure : Word32
  rsvRdy : Bool
  fresh : Bool
  deriving DecidableEq, Repr

/-- A live slot 4..7 (R111). -/
structure LiveTrack where
  state : TrackState
  wireId : Nat
  stagger : Int
  height : Int
  wear : Option WearSample
  lastHit : Int
  peak : Option Nat
  indication : Option WearIndication
  mergedWith : Option Slot
  fresh : Bool
  deriving DecidableEq, Repr

/-- The live table (R155). -/
structure Live where
  travel : LiveTravel
  attitude : LiveAttitude
  temp : LiveTemp
  expo : LiveExpo
  tracks : Four LiveTrack
  deriving DecidableEq, Repr

/-! ### The machine -/

/-- The whole state: the clock in 0.25 µs since the last reset (log entry 2), the model's own count of free values drawn
(log entry 8), the input pins, the blocks, and the queue of waiting commands. -/
structure State where
  clock : Nat
  free : Nat
  pins : PinLevels
  link : Link
  heads : Pair HeadLink
  table : List Entry
  expo : Expo
  odo : Odo
  mark : Markers
  att : Attitude
  trk : Tracker
  span : SpanBuilder
  run : Run
  rep : Report
  live : Live
  cal : Calibration
  cfg : Groups
  pending : List Instr
  deriving DecidableEq, Repr

/-- No command ends in a fault: the manual's faults are records and consequences inside the part (R178 to R184), so
the type is empty. Safe: nothing can be proved of a run that stops. -/
inductive Fault where
  deriving DecidableEq, Repr

/-- Refusals. -/
inductive Refusal where
  /-- Raised by `exec` alone, for a command that has no meaning yet (no arm uses it now). Safe: the model stops. -/
  | notModelled (mnemonic : String)
  deriving DecidableEq, Repr

/-! ### Reset -/

/-- A filter at reset: it holds the level it finds once that has held for the given time (R24, R50). -/
def Filter.settling (hold : Nat) : Filter := { accepted := none, due := some hold }

/-- A FREE slot (R87). -/
def Track.empty : Track :=
  { state := .free, wireId := none, lastS := 0, lastH := 0, rate := 0, lastHit := 0, hits := 0, coasted := 0, wear := [],
    mergedWith := none, previousPartner := none, mergedDistance := 0, peak := none, indication := none }

/-- No scan flag. -/
def ScanFlags.empty : ScanFlags :=
  { headAAbsent := false, headBAbsent := false, illumShort := false, illumStuck := false, attStale := false,
    attNone := false, tempHeld := false, uncalibrated := false }

/-- A fault record after reset (R178). -/
def FaultRecord.empty : FaultRecord :=
  { count := 0, first := none, last := none, value := none, spanMark := false, runMark := false }

/-- Defaults of spec 2.1. -/
def ExposureSet.initial : ExposureSet :=
  { mode := .distance, pitch := 100, period := 20, pulses := 4, onTime := 40, offTime := 60, blankOut := 30,
    stuckWindow := 60, chargeGuard := 50, quiet := true, headTimeout := 8, dedupDx := 30, dedupDz := 50 }

/-- Defaults of spec 3.1. -/
def OdometrySet.initial : OdometrySet :=
  { nmPerCount := 705600, inverted := false, reverseDistance := 1000, reversed := false }

/-- Defaults of spec 4.1. -/
def AttitudeSet.initial : AttitudeSet := { osr := 128, maxAge := 10 }

/-- Defaults of spec 3.5. -/
def MarkerSet.initial : MarkerSet :=
  { debounce := Four.const true, qualify := ⟨300, 300, 0, 0⟩, mast := .either, overlap := .level, siteMarks := true }

/-- Defaults of spec 6.2. -/
def TrackingSet.initial : TrackingSet :=
  { accept := 96, hysteresis := 16, staggerGate := 30, heightGate := 60, mergeStagger := 10, mergeHeight := 30,
    confirmHits := 4, coastDistance := 2000, duplicateLength := 1500, windowLow := 4600, windowHigh := 6800,
    overlapLift := 400, wearResolution := 500 }

/-- Defaults of spec 7.1. -/
def LineSet.initial : LineSet :=
  { wireType := 0, staggerLimit := 400, staggerHyst := 10, heightLow := 4800, heightHyst := 20, wearHyst := 50,
    spanMin := 15, spanMax := 120, wireLoss := 50, wiresPerLine := 1 }

/-- Defaults of R114. -/
def initialWireTypes : Four WireType :=
  ⟨{ radius := 6000, minRemaining := 9600, code := 0 }, { radius := 6600, minRemaining := 10560, code := 1 },
    { radius := 7400, minRemaining := 11840, code := 2 }, { radius := 5400, minRemaining := 8640, code := 3 }⟩

/-- Every cause. -/
def Causes.every : Causes :=
  { spanAvailable := true, eventAvailable := true, queueLoss := true, fault := true, runState := true }

/-- Every group at its defaults, nothing staged (R170). -/
def Groups.initial : Groups :=
  { exposure := .initial, stagedExposure := none, odometry := .initial, attitude := .initial, markers := .initial,
    tracking := .initial, line := .initial, stagedLine := none, wireTypes := initialWireTypes,
    reporting := { streaming := false, spanMark := 1, mask := .every } }

/-- The defaults of R173. -/
def CalFields.initial : CalFields :=
  { lA := 900000, lB := 900000, hb := 4100000, spacing := 1600, gainVL := 40960, gainVR := 40960, gainLAT := 40960,
    zeroVL := 0, zeroVR := 0, zeroLAT := 0, alpha := 23, t0 := 2000, codeRef := 596300, tRef := 29815,
    fieldALow := -8000, fieldAHigh := 1500, fieldBLow := -1500, fieldBHigh := 8000, serial := 0 }

/-- A head link after reset (R2, R4). -/
def HeadLink.initial : HeadLink := { receiver := .hunting, arm := none, live := true, silence := 0 }

/-- The Exposure Controller after reset (R20, R22, R24). -/
def Expo.initial : Expo :=
  { state := .ready, counter := 0, skipped := 0, gridBase := 0, periodDue := none, trigFilter := .settling 8,
    burst := none, stuckDue := none, ack := none, blankDue := none, guardDue := none, expSync := false,
    lasDrv := false, chgEn := false }

/-- The Odometer Interface after reset (R42, R44 to R47): gates every 10 ms, decay every 100 ms. -/
def Odo.initial : Odo :=
  { acc := 0, history := List.replicate 10 0, speed := 0, direction := .standstill, furthest := 0, backTravel := false,
    phaseLevel := 0, gateDue := 40000, decayDue := 400000 }

/-- A marker channel after reset (R50, R52). -/
def Channel.initial : Channel := { filter := .settling 120, state := .idle, assertedAt := 0, target := 0 }

/-- The mast source in IDLE. -/
def Mast.idle : Mast := { state := .idle, candidate := 0, source := .none }

/-- Marker Logic after reset (R52, R56). -/
def Markers.initial : Markers := { channels := Four.const .initial, mast := .idle, zone := false }

/-- An attitude channel after reset (R60). -/
def AttChannel.initial : AttChannel := { good := none, discarded := false }

/-- The Attitude Converter after reset (R59 to R61, R66): its first conversion, of OSR × 4 µs, begins when the reset
ends. -/
def Attitude.initial : Attitude :=
  { channel := .vl, first := none, round := 1, osr := 128, due := 2048, vl := .initial, vr := .initial, lat := .initial,
    temp := none, beam := none, held := false, calTemp := none }

/-- The Wire Tracker after reset (R87). -/
def Tracker.initial : Tracker := { tracks := Four.const .empty, nextId := 1, lastScan := 0 }

/-- No open monitor. -/
def Monitors.closed : Monitors := { stagger := none, heightLow := none, wear := none }

/-- A FREE slot of the wire view. -/
def ViewEntry.free : ViewEntry := { state := .free, wireId := none }

/-- The Span Builder after reset (R115). -/
def SpanBuilder.initial : SpanBuilder :=
  { opened := none, provisional := none, candidate := none, seq := 0, monitors := Four.const .closed,
    watchArmed := false, watchRef := 0, view := Four.const .free }

/-- The Run Controller after reset (R136, R169). -/
def Run.initial : Run := { state := .stopped, number := 0, cause := none, causeFault := none }

/-- The Output Buffers and Fault Monitor after reset (R148, R151, R157, R158, R178). -/
def Report.initial : Report :=
  { spans := { items := [], lastStored := 0, lost := 0, inFlight := false },
    events := { items := [], seq := 0, lastStored := 0, lost := 0 },
    lossCause := false, faultCause := false, runCause := false, pulseDue := none, attn := false,
    faults := List.replicate 23 .empty }

/-- A live track slot of zeros (R155). -/
def LiveTrack.zero : LiveTrack :=
  { state := .free, wireId := 0, stagger := 0, height := 0, wear := none, lastHit := 0, peak := none,
    indication := none, mergedWith := none, fresh := false }

/-- The live table after reset (R155). -/
def Live.initial : Live :=
  { travel := { position := 0, speed := 0, direction := .standstill, run := .stopped, fresh := false },
    attitude := { snapshot := ⟨0, 0, 0⟩, ageMs := 0, ageCase := .fresh, discardedVL := false, discardedVR := false,
                  discardedLAT := false, fresh := false },
    temp := { temperature := 0, strain := 0, held := false, fresh := false },
    expo := { counter := 0, skipped := 0, flags := .empty, exposure := 0, rsvRdy := false, fresh := false },
    tracks := Four.const .zero }

/-- The Host Link Controller as a start-up begins (R162, R163, R167). -/
def Link.startUp (rate : Nat) (kind : ResetKind) : Link :=
  { rate := rate, receiver := .hunting, errGap := 0, errLength := 0, errByte := 0, errCrc := 0, handling := .starting,
    slot := none, tx := none, readyPending := false, resetKind := kind, stopClosed := none, resetDue := false }

/-- The Calibration Store as a start-up begins, with the block it will load. DESIGN CHOICE (log entry 7): until the load
ends the working copy holds the defaults and the status is INVALID. -/
def Calibration.startUp (block : List Byte) : Calibration :=
  { work := .initial, valid := false, modified := false, storing := false, lastResult := .none, block := block }

/-- Every block at its reset values and the start-up begun (R136, R167, R170, R172). -/
def State.startUp (pins : PinLevels) (rate : Nat) (kind : ResetKind) (block : List Byte) (free : Nat)
    (pending : List Instr) : State :=
  { clock := 0, free := free, pins := pins, link := .startUp rate kind, heads := ⟨.initial, .initial⟩, table := [],
    expo := .initial, odo := .initial, mark := .initial, att := .initial, trk := .initial, span := .initial,
    run := .initial, rep := .initial, live := .initial, cal := .startUp block, cfg := .initial, pending := pending }

/-- DESIGN CHOICE (log entry 5): the pin levels at `State.reset`, the straps as the enclosure is delivered (R160). -/
def deliveredPins : PinLevels :=
  { rate1 := false, rate0 := true, encA := false, encB := false, markers := Four.const false, trigIn := false,
    lasAck := false, rsvRdy := false }

/-- DESIGN CHOICE (log entry 6): the non-volatile block at `State.reset` holds the defaults of R173 in the layout of
WRITE_CAL and their CRC-32, low byte first. -/
def deliveredBlock : List Byte :=
  [0xA0, 0xBB, 0x0D, 0x00, 0xA0, 0xBB, 0x0D, 0x00, 0xA0, 0x8F, 0x3E, 0x00, 0x40, 0x06, 0x00, 0xA0, 0x00, 0x00,
    0x00, 0xA0, 0x00, 0x00, 0x00, 0xA0, 0x00, 0x00, 0x00, 0x00, 0x00, 0x00, 0x00, 0x00, 0x00, 0x00, 0x00, 0x00,
    0x00, 0x00, 0x17, 0xD0, 0x07, 0x4C, 0x19, 0x09, 0x00, 0x77, 0x74, 0xC0, 0xE0, 0xDC, 0x05, 0x24, 0xFA, 0x40,
    0x1F, 0x00, 0x00, 0x00, 0x00, 0x5B, 0x0E, 0xAF, 0x79]

/-- The machine right after a power-on reset of the part as delivered, its queue empty. -/
def State.reset : State := State.startUp deliveredPins 460800 .powerOn deliveredBlock 0 []

end Sys2Proof.Machine
end

