-- ==== Sys2Proof/Machine/Operands.lean ====
section
/-! DEFINITION. The operand forms: payload fields and their ranges (R165, R170, R197, R201), the eight groups' sets, the
calibration fields, and the RETURNS payload (R200). -/

namespace Sys2Proof.Machine

/-- The values a field admits. -/
inductive Domain where
  | range (lo hi : Int)
  | oneOf (values : List Int)
  deriving DecidableEq, Repr

/-- A payload field: width in bytes, signedness, admitted values. -/
structure Field where
  width : Nat
  signed : Bool
  domain : Domain
  deriving DecidableEq, Repr

/-- A value lies within its field's range. -/
def Domain.holds : Domain → Int → Bool
  | .range lo hi, v => decide (lo ≤ v) && decide (v ≤ hi)
  | .oneOf vs, v => vs.contains v

/-- An unsigned field of `w` bytes with a range. -/
def Field.nat (w : Nat) (lo hi : Int) : Field := { width := w, signed := false, domain := .range lo hi }

/-- A signed field of `w` bytes with a range. -/
def Field.int (w : Nat) (lo hi : Int) : Field := { width := w, signed := true, domain := .range lo hi }

/-- An enumeration of `n` values (R197). -/
def Field.enumOf (n : Int) : Field := .nat 1 0 (n - 1)

/-- A yes/no field (R197). -/
def Field.flag : Field := .nat 1 0 1

/-- The length of a list of fields in bytes. -/
def fieldsLength : List Field → Nat
  | [] => 0
  | f :: fs => f.width + fieldsLength fs

/-- The field values that a payload holds, in layout order (R197). -/
def readFields : List Field → List Byte → List Int
  | [], _ => []
  | f :: fs, bs => ofBytes f.signed (bs.take f.width) :: readFields fs (bs.drop f.width)

/-- Field values as payload bytes, in layout order (R197). -/
def writeFields : List Field → List Int → List Byte
  | f :: fs, v :: vs => toBytes f.width v ++ writeFields fs vs
  | _, _ => []

/-- The index of the first field whose value lies outside its range, counted from `n` (R165). -/
def firstBad : Nat → List Field → List Int → Option Nat
  | n, f :: fs, v :: vs => if f.domain.holds v then firstBad (n + 1) fs vs else some n
  | _, _, _ => none

/-- What checking a set gives: the set, or the index of the field that BAD_VALUE carries (R165). -/
inductive Checked (α : Type) where
  | good (value : α)
  | bad (index : Nat)
  deriving DecidableEq, Repr

/-- A payload read by its fields: every range in layout order first, then the relations that `relation` names by the
index of the later field (R165, R170, log entry 14). `n` is the index of the first field. -/
def checkFields {α : Type} (n : Nat) (fs : List Field) (relation : List Int → Option Nat) (make : List Int → α)
    (bs : List Byte) : Checked α :=
  let vs := readFields fs bs
  match firstBad n fs vs with
  | some i => .bad i
  | none =>
    match relation vs with
    | some i => .bad i
    | none => .good (make vs)

/-- A number as the code of a yes/no field. -/
def flagInt (b : Bool) : Int := if b then 1 else 0

/-! ### EXPOSURE (spec 2.1, R38) -/

/-- Code order of spec 2.1. -/
def TrigMode.ofCode : Int → TrigMode
  | 0 => .distance
  | 1 => .external
  | 2 => .timed
  | _ => .single

/-- Code order of spec 2.1. -/
def TrigMode.code : TrigMode → Int
  | .distance => 0
  | .external => 1
  | .timed => 2
  | .single => 3

/-- The EXPOSURE set, 17 bytes (R201). -/
def exposureFields : List Field :=
  [.enumOf 4, .nat 2 25 1000, .nat 2 1 1000, .nat 1 1 32, .nat 1 1 255, .nat 1 1 255, .nat 2 0 500, .nat 2 5 500,
    .nat 1 0 200, .flag, .nat 1 1 40, .nat 1 5 100, .nat 1 10 200]

/-- The set that field values make. -/
def ExposureSet.ofValues : List Int → ExposureSet
  | [mode, pitch, period, pulses, onT, offT, blank, stuck, guard, quiet, timeout, dx, dz] =>
    { mode := .ofCode mode, pitch := pitch.toNat, period := period.toNat, pulses := pulses.toNat, onTime := onT.toNat,
      offTime := offT.toNat, blankOut := blank.toNat, stuckWindow := stuck.toNat, chargeGuard := guard.toNat,
      quiet := decide (quiet = 1), headTimeout := timeout.toNat, dedupDx := dx.toNat, dedupDz := dz.toNat }
  | _ => .initial

/-- The field values of a set. -/
def ExposureSet.values (e : ExposureSet) : List Int :=
  [e.mode.code, e.pitch, e.period, e.pulses, e.onTime, e.offTime, e.blankOut, e.stuckWindow, e.chargeGuard,
    flagInt e.quiet, e.headTimeout, e.dedupDx, e.dedupDz]

/-- R38: the stuck window (field 8, in µs) exceeds the on-time and the off-time (in 0.5 µs). -/
def exposureRelation : List Int → Option Nat
  | [_, _, _, _, onT, offT, _, stuck, _, _, _, _, _] => if onT < 2 * stuck ∧ offT < 2 * stuck then none else some 8
  | _ => none

/-- R38: the checks of an EXPOSURE set. -/
def checkExposure (bs : List Byte) : Checked ExposureSet :=
  checkFields 1 exposureFields exposureRelation .ofValues bs

/-! ### ODOMETRY (spec 3.1, R40) -/

/-- The ODOMETRY set, 8 bytes. -/
def odometryFields : List Field := [.nat 4 1000 2000000, .enumOf 2, .nat 2 100 10000, .enumOf 2]

/-- The set that field values make. -/
def OdometrySet.ofValues : List Int → OdometrySet
  | [nm, sense, rev, orient] =>
    { nmPerCount := nm.toNat, inverted := decide (sense = 1), reverseDistance := rev.toNat,
      reversed := decide (orient = 1) }
  | _ => .initial

/-- The field values of a set. -/
def OdometrySet.values (o : OdometrySet) : List Int :=
  [o.nmPerCount, flagInt o.inverted, o.reverseDistance, flagInt o.reversed]

/-- R40: the checks of an ODOMETRY set. -/
def checkOdometry (bs : List Byte) : Checked OdometrySet :=
  checkFields 1 odometryFields (fun _ => none) .ofValues bs

/-! ### ATTITUDE (spec 4.1, R58) -/

/-- The ATTITUDE set, 3 bytes; the OSR is carried as its numeric value (R197). -/
def attitudeFields : List Field := [{ width := 2, signed := false, domain := .oneOf [64, 128, 256, 512] }, .nat 1 1 50]

/-- The set that field values make. -/
def AttitudeSet.ofValues : List Int → AttitudeSet
  | [osr, age] => { osr := osr.toNat, maxAge := age.toNat }
  | _ => .initial

/-- The field values of a set. -/
def AttitudeSet.values (a : AttitudeSet) : List Int := [a.osr, a.maxAge]

/-- R58: the maximum age in µs is at least eight conversions of OSR × 4 µs. -/
def attitudeRelation : List Int → Option Nat
  | [osr, age] => if age * 1000 < 8 * (osr * 4) then some 2 else none
  | _ => none

/-- R58: the checks of an ATTITUDE set. -/
def checkAttitude (bs : List Byte) : Checked AttitudeSet :=
  checkFields 1 attitudeFields attitudeRelation .ofValues bs

/-! ### MARKERS (spec 3.5, R49) -/

/-- Code order of spec 3.5. -/
def MastSetting.ofCode : Int → MastSetting
  | 0 => .mk1
  | 1 => .mk2
  | 2 => .either
  | _ => .both

/-- Code order of spec 3.5. -/
def MastSetting.code : MastSetting → Int
  | .mk1 => 0
  | .mk2 => 1
  | .either => 2
  | .both => 3

/-- Code order of spec 3.5. -/
def OverlapMode.ofCode : Int → OverlapMode
  | 0 => .off
  | 1 => .level
  | _ => .toggle

/-- Code order of spec 3.5. -/
def OverlapMode.code : OverlapMode → Int
  | .off => 0
  | .level => 1
  | .toggle => 2

/-- The MARKERS set, 15 bytes: four debounce settings, then four qualify distances (R201). -/
def markerFields : List Field :=
  [.flag, .flag, .flag, .flag, .nat 2 0 2000, .nat 2 0 2000, .nat 2 0 2000, .nat 2 0 2000, .enumOf 4, .enumOf 3, .flag]

/-- The set that field values make. -/
def MarkerSet.ofValues : List Int → MarkerSet
  | [d1, d2, d3, d4, q1, q2, q3, q4, mast, zone, site] =>
    { debounce := ⟨decide (d1 = 1), decide (d2 = 1), decide (d3 = 1), decide (d4 = 1)⟩,
      qualify := ⟨q1.toNat, q2.toNat, q3.toNat, q4.toNat⟩, mast := .ofCode mast, overlap := .ofCode zone,
      siteMarks := decide (site = 1) }
  | _ => .initial

/-- The field values of a set. -/
def MarkerSet.values (m : MarkerSet) : List Int :=
  [flagInt m.debounce.e0, flagInt m.debounce.e1, flagInt m.debounce.e2, flagInt m.debounce.e3, m.qualify.e0,
    m.qualify.e1, m.qualify.e2, m.qualify.e3, m.mast.code, m.overlap.code, flagInt m.siteMarks]

/-- R49: the checks of a MARKERS set. -/
def checkMarkers (bs : List Byte) : Checked MarkerSet :=
  checkFields 1 markerFields (fun _ => none) .ofValues bs

/-! ### TRACKING (spec 6.2, R89) -/

/-- The TRACKING set, 19 bytes. -/
def trackingFields : List Field :=
  [.nat 1 0 255, .nat 1 0 64, .nat 1 5 100, .nat 1 10 200, .nat 1 2 30, .nat 1 10 100, .nat 1 2 16, .nat 2 200 10000,
    .nat 2 200 5000, .nat 2 4000 7500, .nat 2 4000 7500, .nat 2 0 1000, .nat 2 100 2000]

/-- The set that field values make. -/
def TrackingSet.ofValues : List Int → TrackingSet
  | [acc, hyst, sg, hg, ms, mh, ch, cd, dl, wl, wh, lift, wr] =>
    { accept := acc.toNat, hysteresis := hyst.toNat, staggerGate := sg.toNat, heightGate := hg.toNat,
      mergeStagger := ms.toNat, mergeHeight := mh.toNat, confirmHits := ch.toNat, coastDistance := cd.toNat,
      duplicateLength := dl.toNat, windowLow := wl.toNat, windowHigh := wh.toNat, overlapLift := lift.toNat,
      wearResolution := wr.toNat }
  | _ => .initial

/-- The field values of a set. -/
def TrackingSet.values (t : TrackingSet) : List Int :=
  [t.accept, t.hysteresis, t.staggerGate, t.heightGate, t.mergeStagger, t.mergeHeight, t.confirmHits, t.coastDistance,
    t.duplicateLength, t.windowLow, t.windowHigh, t.overlapLift, t.wearResolution]

/-- R89: the lower limit of the height window is below its upper limit (field 11). -/
def trackingRelation : List Int → Option Nat
  | [_, _, _, _, _, _, _, _, _, low, high, _, _] => if low < high then none else some 11
  | _ => none

/-- R89: the checks of a TRACKING set. -/
def checkTracking (bs : List Byte) : Checked TrackingSet :=
  checkFields 1 trackingFields trackingRelation .ofValues bs

/-! ### LINE (spec 7.1, R113) -/

/-- The LINE set, 14 bytes. -/
def lineFields : List Field :=
  [.nat 1 0 3, .nat 2 100 800, .nat 1 1 50, .nat 2 4000 6500, .nat 1 1 100, .nat 2 10 500, .nat 1 5 50, .nat 1 40 200,
    .nat 2 10 1000, .nat 1 1 2]

/-- The set that field values make. -/
def LineSet.ofValues : List Int → LineSet
  | [wt, sl, sh, hl, hh, wh, mn, mx, wl, wpl] =>
    { wireType := wt.toNat, staggerLimit := sl.toNat, staggerHyst := sh.toNat, heightLow := hl.toNat,
      heightHyst := hh.toNat, wearHyst := wh.toNat, spanMin := mn.toNat, spanMax := mx.toNat, wireLoss := wl.toNat,
      wiresPerLine := wpl.toNat }
  | _ => .initial

/-- The field values of a set. -/
def LineSet.values (l : LineSet) : List Int :=
  [l.wireType, l.staggerLimit, l.staggerHyst, l.heightLow, l.heightHyst, l.wearHyst, l.spanMin, l.spanMax, l.wireLoss,
    l.wiresPerLine]

/-- R113: the span minimum is below the span maximum (field 8). -/
def lineRelation : List Int → Option Nat
  | [_, _, _, _, _, _, mn, mx, _, _] => if mn < mx then none else some 8
  | _ => none

/-- R113: the checks of a LINE set. -/
def checkLine (bs : List Byte) : Checked LineSet :=
  checkFields 1 lineFields lineRelation .ofValues bs

/-! ### WIRE_TYPES (R114) -/

/-- The fields of four entries; the upper end of a minimum remaining height is one below its own entry's diameter, which
`wireTypeFields` takes from the values read. -/
def wireTypeFields (diameters : List Int) : List Field :=
  match diameters with
  | [] => []
  | d :: ds => .nat 2 4000 8000 :: .nat 2 1 (2 * d - 1) :: .nat 2 0 65535 :: wireTypeFields ds

/-- The half diameters that a WIRE_TYPES payload carries, each in steps of 2 µm. -/
def wireTypeDiameters (bs : List Byte) : List Int :=
  [ofBytes false (bs.take 2), ofBytes false ((bs.drop 6).take 2), ofBytes false ((bs.drop 12).take 2),
    ofBytes false ((bs.drop 18).take 2)]

/-- The table that field values make. -/
def wireTypesOfValues : List Int → Four WireType
  | [d0, m0, c0, d1, m1, c1, d2, m2, c2, d3, m3, c3] =>
    ⟨⟨d0.toNat, m0.toNat, c0.toNat⟩, ⟨d1.toNat, m1.toNat, c1.toNat⟩, ⟨d2.toNat, m2.toNat, c2.toNat⟩,
      ⟨d3.toNat, m3.toNat, c3.toNat⟩⟩
  | _ => initialWireTypes

/-- The field values of one entry. -/
def WireType.values (w : WireType) : List Int := [w.radius, w.minRemaining, w.code]

/-- The field values of the table, entry 0 first. -/
def wireTypesValues (t : Four WireType) : List Int :=
  t.e0.values ++ t.e1.values ++ t.e2.values ++ t.e3.values

/-- R114: the checks of a WIRE_TYPES table. -/
def checkWireTypes (bs : List Byte) : Checked (Four WireType) :=
  checkFields 1 (wireTypeFields (wireTypeDiameters bs)) (fun _ => none) wireTypesOfValues bs

/-! ### REPORTING (R154) -/

/-- A mask of the five causes, bit 0 the first (R157, R197). -/
def Causes.ofMask (n : Nat) : Causes :=
  { spanAvailable := n.testBit 0, eventAvailable := n.testBit 1, queueLoss := n.testBit 2, fault := n.testBit 3,
    runState := n.testBit 4 }

/-- The members of a set of causes in the order of R157. -/
def Causes.members (c : Causes) : List Bool := [c.spanAvailable, c.eventAvailable, c.queueLoss, c.fault, c.runState]

/-- The REPORTING set, 3 bytes. -/
def reportingFields : List Field := [.flag, .nat 1 1 32, .nat 1 0 31]

/-- The set that field values make. -/
def ReportingSet.ofValues : List Int → ReportingSet
  | [on, mark, mask] => { streaming := decide (on = 1), spanMark := mark.toNat, mask := .ofMask mask.toNat }
  | _ => Groups.initial.reporting

/-- The field values of a set. -/
def ReportingSet.values (r : ReportingSet) : List Int := [flagInt r.streaming, r.spanMark, maskOf r.mask.members]

/-- R154: the checks of a REPORTING set. -/
def checkReporting (bs : List Byte) : Checked ReportingSet :=
  checkFields 1 reportingFields (fun _ => none) .ofValues bs

/-! ### The calibration fields (R173) -/

/-- The 19 fields, 59 bytes (R201). -/
def calFields : List Field :=
  [.nat 4 100000 2000000, .nat 4 100000 2000000, .nat 4 2000000 6000000, .nat 2 500 4000, .nat 4 1 2000000,
    .nat 4 1 2000000, .nat 4 1 2000000, .int 4 (-8388607) 8388607, .int 4 (-8388607) 8388607,
    .int 4 (-8388607) 8388607, .nat 1 0 50, .int 2 (-4000) 8500, .nat 4 1 8388607, .nat 2 23315 35815,
    .int 2 (-10000) 10000, .int 2 (-10000) 10000, .int 2 (-10000) 10000, .int 2 (-10000) 10000, .nat 4 0 4294967295]

/-- The working copy that field values make. -/
def CalFields.ofValues : List Int → CalFields
  | [lA, lB, hb, sp, g1, g2, g3, z1, z2, z3, al, t0, cr, tr, al1, ah, bl, bh, sn] =>
    { lA := lA, lB := lB, hb := hb, spacing := sp, gainVL := g1, gainVR := g2, gainLAT := g3, zeroVL := z1, zeroVR := z2,
      zeroLAT := z3, alpha := al, t0 := t0, codeRef := cr, tRef := tr, fieldALow := al1, fieldAHigh := ah,
      fieldBLow := bl, fieldBHigh := bh, serial := sn }
  | _ => .initial

/-- The field values of a working copy. -/
def CalFields.values (c : CalFields) : List Int :=
  [c.lA, c.lB, c.hb, c.spacing, c.gainVL, c.gainVR, c.gainLAT, c.zeroVL, c.zeroVR, c.zeroLAT, c.alpha, c.t0, c.codeRef,
    c.tRef, c.fieldALow, c.fieldAHigh, c.fieldBLow, c.fieldBHigh, c.serial]

/-- R175: the checks of WRITE_CAL. -/
def checkCal (bs : List Byte) : Checked CalFields := checkFields 0 calFields (fun _ => none) .ofValues bs

/-- The 59 bytes of a working copy (R199). -/
def calBytes (c : CalFields) : List Byte := writeFields calFields c.values

/-- The 63 bytes of the non-volatile block that holds a working copy (R173, R199). -/
def calImage (c : CalFields) : List Byte :=
  let bytes := calBytes c
  bytes ++ toBytes 4 (crc32 bytes).toNat

/-! ### Small request payloads -/

/-- START_RUN: the start position; the one value outside ±2,147,483,647 that four bytes hold is refused (R137). -/
def startRunFields : List Field := [.int 4 (-2147483647) 2147483647]

/-- CAL_TEMPERATURE: the reference in 0.01 °C (R68). -/
def calTemperatureFields : List Field := [.int 2 (-4000) 8500]

/-- READ_LIVE: first slot 0..7 and a count other than 0 (R156). -/
def readLiveFields : List Field := [.nat 1 0 7, .nat 1 1 255]

/-- FETCH_SPANS and FETCH_EVENTS: a maximum count other than 0 (R150, R153). -/
def fetchFields : List Field := [.nat 1 1 255]

/-- ACK_ATTENTION: a set of the five causes (R159, R197). -/
def ackFields : List Field := [.nat 1 0 31]

/-- GET_GROUP: a group code (R171). -/
def groupFields : List Field := [.enumOf 8]

/-! ### RETURNS (R3, R200) -/

/-- The reasons of HEAD_FRAME in code order (R201). -/
inductive HeadReason where
  | length
  | gap
  | byteError
  | crc
  | kind
  | count
  | payloadLength
  | range
  deriving DecidableEq, Repr

/-- The code of a reason (R201). -/
def HeadReason.code : HeadReason → Nat
  | .length => 0
  | .gap => 1
  | .byteError => 2
  | .crc => 3
  | .kind => 4
  | .count => 5
  | .payloadLength => 6
  | .range => 7

/-- One return of 8 bytes at a place of its frame (R200). -/
def readReturn (place : Nat) (bs : List Byte) : HeadReturn :=
  { xh := ofBytes true (bs.take 2), zh := natOfBytes ((bs.drop 2).take 2), wh := natOfBytes ((bs.drop 4).take 2),
    peak := natOfBytes ((bs.drop 6).take 1), saturated := (natOfBytes ((bs.drop 7).take 1)).testBit 0, place := place }

/-- The returns of a RETURNS payload after its tag and count, `n` of them from a place on (R200). -/
def readReturns : Nat → Nat → List Byte → List HeadReturn
  | 0, _, _ => []
  | n + 1, place, bs => readReturn place bs :: readReturns n (place + 1) (bs.drop 8)

/-- R3, check 6. -/
def HeadReturn.inRange (r : HeadReturn) : Bool := decide (r.zh ≤ 30000) && decide (r.wh ≤ 20000)

/-- A RETURNS frame as received: its tag and returns. -/
structure ReturnsFrame where
  tag : Byte
  returns : List HeadReturn
  deriving DecidableEq, Repr

/-- What checking a head frame gives (R3). -/
inductive HeadFrame where
  | valid (frame : ReturnsFrame)
  | failed (reason : HeadReason)
  deriving DecidableEq, Repr

/-- R3, checks 3 to 6, in their order. -/
def checkReturns (payload : List Byte) : HeadFrame :=
  match payload with
  | tag :: n :: rest =>
    if 6 < n.toNat then .failed .count
    else if rest.length = 8 * n.toNat then
      let rs := readReturns n.toNat 0 rest
      if rs.all HeadReturn.inRange then .valid { tag := tag, returns := rs } else .failed .range
    else .failed .payloadLength
  | _ => .failed .payloadLength

/-- The bytes of a frame that the CRC-16 covers: length, kind and payload (R161, R199). -/
def crcBytes (kind : Byte) (payload : List Byte) : List Byte := toBytes 2 payload.length ++ kind :: payload

/-- R3: the six checks of a head frame received whole, in their order. -/
def checkHeadFrame (kind : Byte) (payload : List Byte) (crc : BitVec 16) : HeadFrame :=
  if crc ≠ crc16 (crcBytes kind payload) then .failed .crc
  else if kind ≠ 0x41 then .failed .kind
  else checkReturns payload

end Sys2Proof.Machine
end

