-- ==== Sys2Proof/Machine/Layout.lean ====
section
/-! DEFINITION. Byte layouts of what the part sends: envelope, events, span records, live slots, fault records, replies
(spec 12). -/

namespace Sys2Proof.Machine

/-! ### Codes of enumerations (R197) -/

/-- R197, run state. -/
def RunState.code : RunState → Nat
  | .stopped => 0
  | .armed => 1
  | .measuring => 2
  | .paused => 3
  | .faulted => 4

/-- R197, run cause. -/
def RunCause.code : RunCause → Nat
  | .startRun => 0
  | .stopRun => 1
  | .firstMast => 2
  | .reverse => 3
  | .forwardResumed => 4
  | .haltingFault => 5

/-- The fault codes 1..23 (R179). -/
def FaultCode.number : FaultCode → Nat
  | .headSilent => 1
  | .headLost => 2
  | .headsLost => 3
  | .headLate => 4
  | .headFrame => 5
  | .returnsTruncated => 6
  | .pulseCount => 7
  | .driveStuck => 8
  | .reservoirLow => 9
  | .assemblyFull => 10
  | .triggerOverrun => 11
  | .odoPhase => 12
  | .odoLost => 13
  | .attStale => 14
  | .attOverrange => 15
  | .tempRange => 16
  | .trackSlotsFull => 17
  | .wireLoss => 18
  | .queueLoss => 19
  | .linkFrame => 20
  | .linkOverrun => 21
  | .calInvalid => 22
  | .calStoreFail => 23

/-- The class of each code (R179). -/
def FaultCode.class : FaultCode → FaultClass
  | .headSilent => .degrading
  | .headLost => .degrading
  | .headsLost => .halting
  | .headLate => .notice
  | .headFrame => .notice
  | .returnsTruncated => .notice
  | .pulseCount => .degrading
  | .driveStuck => .degrading
  | .reservoirLow => .degrading
  | .assemblyFull => .degrading
  | .triggerOverrun => .notice
  | .odoPhase => .notice
  | .odoLost => .halting
  | .attStale => .degrading
  | .attOverrange => .degrading
  | .tempRange => .degrading
  | .trackSlotsFull => .notice
  | .wireLoss => .degrading
  | .queueLoss => .notice
  | .linkFrame => .notice
  | .linkOverrun => .notice
  | .calInvalid => .degrading
  | .calStoreFail => .degrading

/-- The 23 codes in ascending order (R186). -/
def FaultCode.all : List FaultCode :=
  [.headSilent, .headLost, .headsLost, .headLate, .headFrame, .returnsTruncated, .pulseCount, .driveStuck,
    .reservoirLow, .assemblyFull, .triggerOverrun, .odoPhase, .odoLost, .attStale, .attOverrange, .tempRange,
    .trackSlotsFull, .wireLoss, .queueLoss, .linkFrame, .linkOverrun, .calInvalid, .calStoreFail]

/-- R197, fault class. -/
def FaultClass.code : FaultClass → Nat
  | .notice => 0
  | .degrading => 1
  | .halting => 2

/-- R197, source. -/
def Source.code : Source → Nat
  | .none => 0
  | .mk1 => 1
  | .mk2 => 2
  | .both => 3

/-- R197, close reason. -/
def CloseReason.code : CloseReason → Nat
  | .mast => 0
  | .longSpan => 1
  | .reverse => 2
  | .runEnd => 3
  | .fault => 4

/-- R197, track state. -/
def TrackState.code : TrackState → Nat
  | .free => 0
  | .tentative => 1
  | .confirmed => 2
  | .coasting => 3

/-- R197, wear indication. -/
def WearIndication.code : WearIndication → Nat
  | .saturated => 0
  | .widthImplausible => 1
  | .belowResolution => 2
  | .sample => 3

/-- R197, monitor kind. -/
def MonitorKind.code : MonitorKind → Nat
  | .stagger => 0
  | .heightLow => 1
  | .wear => 2

/-- Order of R203, MAST row. -/
def MastOutcome.code : MastOutcome → Nat
  | .ignored => 0
  | .qualified => 1

/-- Order of R152, TRACK_ENDED row. -/
def EndReason.code : EndReason → Nat
  | .coastedOut => 0
  | .duplicate => 1

/-- Order of R152, EXC_CLOSE row. -/
def ExcReason.code : ExcReason → Nat
  | .returned => 0
  | .trackEnded => 1
  | .runEnd => 2
  | .typeChanged => 3

/-- Order of R204, slot 0. -/
def Direction.code : Direction → Nat
  | .standstill => 0
  | .forward => 1
  | .backward => 2

/-- Order of R204, slot 1. -/
def AgeCase.code : AgeCase → Nat
  | .fresh => 0
  | .stale => 1
  | .none => 2

/-- Order of R20. -/
def ExpoState.code : ExpoState → Nat
  | .ready => 0
  | .arming => 1
  | .window => 2
  | .blank => 3

/-- Order of R173. -/
def StoreResult.code : StoreResult → Nat
  | .none => 0
  | .verified => 1
  | .failed => 2

/-- Order of R167. -/
def ResetKind.code : ResetKind → Nat
  | .powerOn => 0
  | .soft => 1

/-- One byte of a code. -/
def u8 (n : Nat) : List Byte := toBytes 1 n

/-- Two bytes, least significant first. -/
def u16 (n : Nat) : List Byte := toBytes 2 n

/-- Four bytes of a natural number, least significant first. -/
def u32 (n : Nat) : List Byte := toBytes 4 n

/-- Four bytes of a signed number, least significant first. -/
def i32 (v : Int) : List Byte := toBytes 4 v

/-- A wrapping 32-bit count in four bytes. -/
def w32 (v : Word32) : List Byte := toBytes 4 v.toNat

/-! ### Envelope (R161, R198) -/

/-- The whole frame on the line: preamble, length, kind, payload, CRC-16 low byte first. -/
def frameBytes (f : Frame) : List Byte :=
  [0xA7, 0x3C] ++ crcBytes f.kind f.payload ++ toBytes 2 (crc16 (crcBytes f.kind f.payload)).toNat

/-! ### Events (R203) -/

/-- R197, event kind. -/
def EventBody.code : EventBody → Nat
  | .runState .. => 0
  | .mast .. => 1
  | .overlapBegin => 2
  | .overlapEnd => 3
  | .siteMark _ => 4
  | .operatorMark _ => 5
  | .trackConfirmed .. => 6
  | .trackEnded .. => 7
  | .excOpen .. => 8
  | .excClose .. => 9
  | .fault .. => 10

/-- The kind's own fields, in order (R203). -/
def EventBody.bytes : EventBody → List Byte
  | .runState prev new cause run fc closed furthest =>
    u8 prev.code ++ u8 new.code ++ u8 cause.code ++ u16 run
      ++ [maskByte [fc.isSome, closed.isSome, furthest.isSome]]
      ++ u8 (fc.elim 0 FaultCode.number) ++ w32 (closed.getD 0) ++ i32 (furthest.getD 0)
  | .mast outcome cand src qual closed =>
    u8 outcome.code ++ i32 cand ++ u8 src.code ++ [maskByte [qual.isSome, closed.isSome]] ++ i32 (qual.getD 0)
      ++ w32 (closed.getD 0)
  | .overlapBegin => []
  | .overlapEnd => []
  | .siteMark at_ => i32 at_
  | .operatorMark code => [code]
  | .trackConfirmed slot id s h => u8 slot.num ++ u16 id ++ i32 s ++ i32 h
  | .trackEnded slot id reason last surv => u8 slot.num ++ u16 id ++ u8 reason.code ++ i32 last ++ u16 (surv.getD 0)
  | .excOpen kind slot id value => u8 kind.code ++ u8 slot.num ++ u16 id ++ i32 value
  | .excClose kind slot id reason op peak pp len =>
    u8 kind.code ++ u8 slot.num ++ u16 id ++ u8 reason.code ++ i32 op ++ i32 peak ++ i32 pp ++ i32 len
  | .fault code value count =>
    u8 code.number ++ u8 code.class.code ++ u8 value.qualifier ++ i32 value.number ++ u16 count

/-- An event: 18 common bytes with the length of its own fields, then those (R203). -/
def Event.bytes (e : Event) : List Byte :=
  w32 e.seq ++ w32 e.gap ++ u8 e.body.code ++ i32 e.position ++ w32 e.time ++ u8 e.body.bytes.length ++ e.body.bytes

/-- The length of an event (R203). -/
def Event.size (e : Event) : Nat :=
  18 + match e.body with
    | .runState .. => 15
    | .mast .. => 15
    | .overlapBegin => 0
    | .overlapEnd => 0
    | .siteMark _ => 4
    | .operatorMark _ => 1
    | .trackConfirmed .. => 11
    | .trackEnded .. => 10
    | .excOpen .. => 8
    | .excClose .. => 21
    | .fault .. => 9

/-! ### Span records (R202) -/

/-- A track summary, 48 bytes. -/
def Summary.bytes (s : Summary) : List Byte :=
  u16 s.wireId
    ++ [maskByte [s.presentAtOpen, s.presentAtClose, s.sAtOpen.elim false Registration.predicted,
          s.sAtClose.elim false Registration.predicted]]
    ++ i32 s.firstPos ++ i32 s.lastPos ++ u16 s.hits ++ u16 s.coasted
    ++ [maskByte [s.extremes.isSome, s.sAtOpen.isSome, s.sAtClose.isSome, s.minRemaining.isSome]]
    ++ i32 (s.extremes.elim 0 Extremes.sMin) ++ i32 (s.extremes.elim 0 Extremes.sMax)
    ++ i32 (s.extremes.elim 0 Extremes.hMin) ++ i32 (s.extremes.elim 0 Extremes.hMax)
    ++ i32 (s.sAtOpen.elim 0 Registration.value) ++ i32 (s.sAtClose.elim 0 Registration.value)
    ++ u16 (s.minRemaining.elim 0 MinRemaining.height) ++ i32 (s.minRemaining.elim 0 MinRemaining.position)
    ++ u16 s.excOpened

/-- A span record, 38 bytes and 48 for each summary. -/
def SpanRec.bytes (r : SpanRec) : List Byte :=
  w32 r.seq ++ w32 r.gap ++ u16 r.run ++ i32 r.start ++ i32 r.stop ++ u8 r.reason.code ++ u8 r.openSource.code
    ++ u8 r.closeSource.code ++ u8 r.wireType ++ u16 r.wireCode ++ u8 r.spanMin ++ u8 r.spanMax
    ++ [maskByte [r.overlapSeen, r.extraWire, r.uncalibrated, r.truncated]]
    ++ u16 r.scans ++ u16 r.degraded ++ u16 r.skipped ++ u16 r.ignored ++ u16 r.rejected
    ++ u8 r.summaries.length ++ (r.summaries.map Summary.bytes).flatten

/-- The length of a span record (R202). -/
def SpanRec.size (r : SpanRec) : Nat := 38 + 48 * r.summaries.length

/-! ### Live slots (R204) -/

/-- The scan flags in the order of R189. -/
def ScanFlags.members (f : ScanFlags) : List Bool :=
  [f.headAAbsent, f.headBAbsent, f.illumShort, f.illumStuck, f.attStale, f.attNone, f.tempHeld, f.uncalibrated]

/-- Live slot 0, 10 bytes. -/
def LiveTravel.bytes (l : LiveTravel) : List Byte :=
  i32 l.position ++ i32 l.speed ++ u8 l.direction.code ++ u8 l.run.code

/-- Live slot 1, 16 bytes. -/
def LiveAttitude.bytes (l : LiveAttitude) : List Byte :=
  i32 l.snapshot.roll ++ i32 l.snapshot.bounce ++ i32 l.snapshot.lateral ++ u16 l.ageMs ++ u8 l.ageCase.code
    ++ [maskByte [l.discardedVL, l.discardedVR, l.discardedLAT]]

/-- Live slot 2, 5 bytes. -/
def LiveTemp.bytes (l : LiveTemp) : List Byte := toBytes 2 l.temperature ++ toBytes 2 l.strain ++ [flagByte l.held]

/-- Live slot 3, 14 bytes. DESIGN CHOICE (log entry 39): RSV_RDY is 1 when active and 0 when inactive. -/
def LiveExpo.bytes (l : LiveExpo) : List Byte :=
  w32 l.counter ++ u32 l.skipped ++ [maskByte l.flags.members] ++ w32 l.exposure ++ [flagByte l.rsvRdy]

/-- Live slots 4..7, 23 bytes each. -/
def LiveTrack.bytes (l : LiveTrack) : List Byte :=
  u8 l.state.code ++ u16 l.wireId ++ i32 l.stagger ++ i32 l.height
    ++ [maskByte [l.wear.isSome, l.peak.isSome, l.indication.isSome, l.mergedWith.isSome]]
    ++ u16 (l.wear.elim 0 WearSample.depth) ++ u16 (l.wear.elim 0 WearSample.perMille) ++ i32 l.lastHit
    ++ u8 (l.peak.getD 0) ++ u8 (l.indication.elim 0 WearIndication.code) ++ u8 (l.mergedWith.elim 0 Ix.num)

/-- A live slot in a READ_LIVE reply: its fresh byte, then its contents (R201). -/
def Live.slotBytes (l : Live) : Nat → List Byte
  | 0 => flagByte l.travel.fresh :: l.travel.bytes
  | 1 => flagByte l.attitude.fresh :: l.attitude.bytes
  | 2 => flagByte l.temp.fresh :: l.temp.bytes
  | 3 => flagByte l.expo.fresh :: l.expo.bytes
  | 4 => flagByte l.tracks.e0.fresh :: l.tracks.e0.bytes
  | 5 => flagByte l.tracks.e1.fresh :: l.tracks.e1.bytes
  | 6 => flagByte l.tracks.e2.fresh :: l.tracks.e2.bytes
  | 7 => flagByte l.tracks.e3.fresh :: l.tracks.e3.bytes
  | _ => []

/-! ### Fault records (R201) -/

/-- One record of a READ_FAULTS reply, 18 bytes: the optional fields are first position, last position and value, the
value being a qualifier and a number. -/
def FaultRecord.bytes (c : FaultCode) (r : FaultRecord) : List Byte :=
  u8 c.number ++ u8 c.class.code ++ u16 r.count ++ [maskByte [r.first.isSome, r.last.isSome, r.value.isSome]]
    ++ i32 (r.first.getD 0) ++ i32 (r.last.getD 0) ++ u8 (r.value.elim 0 FaultValue.qualifier)
    ++ i32 (r.value.elim 0 FaultValue.number)

/-- The records of a READ_FAULTS reply in ascending code order (R186). -/
def faultBytes (rs : List FaultRecord) : List Byte :=
  ((FaultCode.all.zip rs).map fun p => p.2.bytes p.1).flatten

/-! ### Replies (R165, R201) -/

/-- The reply statuses in code order (R197). -/
inductive Status where
  | accepted
  | staged
  | wrongState
  | badValue
  | badLength
  | unknownRequest
  | busy
  deriving DecidableEq, Repr

/-- R197, reply status. -/
def Status.code : Status → Byte
  | .accepted => 0
  | .staged => 1
  | .wrongState => 2
  | .badValue => 3
  | .badLength => 4
  | .unknownRequest => 5
  | .busy => 6

/-- A reply to a request of a kind: the status and then its fields (R198, R201). DESIGN CHOICE (log entry 38): for an
unknown kind of 0x80 or above, kind + 0x80 wraps modulo 256. -/
def replyFrame (kind : Byte) (status : Status) (fields : List Byte) : Frame :=
  { kind := kind + 0x80, payload := status.code :: fields }

/-- BAD_VALUE with the index of the failing field (R165). -/
def badValue (kind : Byte) (index : Nat) : Frame := replyFrame kind .badValue (u8 index)

end Sys2Proof.Machine
end

