-- ==== Sys2Proof/WellFormed.lean ====
section
/-! DEFINITION. Which terms of `Instr` stand for an occurrence the manual allows. -/

namespace Sys2Proof

/-- The largest payload of a frame (R161). -/
def maxPayload : Nat := 1024

/-- R201: the payload of a valid RETURNS frame has a count of 0..6 and the length of that count. -/
def returnsShape (payload : List Byte) : Bool :=
  match payload with
  | _ :: n :: rest => decide (n.toNat ≤ 6) && decide (rest.length = 8 * n.toNat)
  | _ => false

/-- R164, R198: a whole frame that no other request row names: its kind is no request code 0x01..0x13, or it is a
SET_GROUP (0x03) whose payload is empty or names none of the eight groups. -/
def isUnknownFrame (kind : Byte) (payload : List Byte) : Bool :=
  if kind = 0x03 then
    match payload with
    | [] => true
    | g :: _ => decide (8 ≤ g.toNat)
  else decide (kind.toNat = 0) || decide (0x13 < kind.toNat)

/-- A payload fits its frame (R161), a SET_GROUP payload with its group code before it, a block read back has its 63
bytes (R199), a RETURNS payload has its shape (R201), and an unknown frame is one. -/
def Instr.wellFormed : Instr → Bool
  | .powerOnReset _ _ => true
  | .calLoadDone => true
  | .identify p => decide (p.length ≤ maxPayload)
  | .status p => decide (p.length ≤ maxPayload)
  | .setGroupExposure b => decide (b.length < maxPayload)
  | .setGroupOdometry b => decide (b.length < maxPayload)
  | .setGroupAttitude b => decide (b.length < maxPayload)
  | .setGroupMarkers b => decide (b.length < maxPayload)
  | .setGroupTracking b => decide (b.length < maxPayload)
  | .setGroupLine b => decide (b.length < maxPayload)
  | .setGroupWireTypes b => decide (b.length < maxPayload)
  | .setGroupReporting b => decide (b.length < maxPayload)
  | .getGroup p => decide (p.length ≤ maxPayload)
  | .startRun p => decide (p.length ≤ maxPayload)
  | .stopRun p => decide (p.length ≤ maxPayload)
  | .exposeOnce p _ => decide (p.length ≤ maxPayload)
  | .operatorMark p => decide (p.length ≤ maxPayload)
  | .readLive p => decide (p.length ≤ maxPayload)
  | .fetchSpans p => decide (p.length ≤ maxPayload)
  | .fetchEvents p => decide (p.length ≤ maxPayload)
  | .ackAttention p => decide (p.length ≤ maxPayload)
  | .readFaults p => decide (p.length ≤ maxPayload)
  | .clearFaults p => decide (p.length ≤ maxPayload)
  | .writeCal p => decide (p.length ≤ maxPayload)
  | .readCal p => decide (p.length ≤ maxPayload)
  | .storeCal p => decide (p.length ≤ maxPayload)
  | .calStoreDone b => decide (b.length = 63)
  | .calTemperature p => decide (p.length ≤ maxPayload)
  | .resetPart p => decide (p.length ≤ maxPayload)
  | .unknownRequest k p => decide (p.length ≤ maxPayload) && isUnknownFrame k p
  | .hostFrameError _ => true
  | .hostByteGapTimeout => true
  | .hostTxFrameDone => true
  | .armFrameSent _ => true
  | .returnsFrameReceived _ p _ => returnsShape p
  | .headFrameError _ (.whole _ p _) => decide (p.length ≤ maxPayload)
  | .headFrameError _ .length => true
  | .headFrameError _ .byteError => true
  | .headByteGapTimeout _ => true
  | .headTimeout _ _ => true
  | .trigInChange => true
  | .trigInFilterExpiry _ => true
  | .periodTimerExpiry _ => true
  | .burstPulseTimer => true
  | .lasAckChange => true
  | .stuckTimerExpiry => true
  | .ackCountDecision => true
  | .blankOutEnd => true
  | .chargeGuardExpiry => true
  | .encoderValidEdge _ _ => true
  | .encoderPhaseError => true
  | .phaseDecayTimer => true
  | .speedGate => true
  | .markerInputChange _ => true
  | .markerDebounceExpiry _ => true
  | .adcConversionDone _ => true
  | .attnPulseEnd => true
  | .hostRxPreamble => true
  | .headRxPreamble _ => true

end Sys2Proof
end

