-- ==== Sys2Proof/Decode.lean ====
section
/-! DEFINITION. Which command a word or a host frame stands for (R161, R198, R201). -/

namespace Sys2Proof

open Sys2Proof.Machine

/-- spec/opcode_table.json gives no row any bits, so no word spells a command. -/
def decodeTableWord (_nbits _w : Nat) : Option Instr := none

/-! ### Host frames (R161, R198) -/

/-- R198, R201: a SET_GROUP payload, its group code first. -/
def setGroupOfPayload (payload : List Byte) : Instr :=
  match payload with
  | [] => .unknownRequest 0x03 payload
  | g :: set =>
    match g.toNat with
    | 0 => .setGroupExposure set
    | 1 => .setGroupOdometry set
    | 2 => .setGroupAttitude set
    | 3 => .setGroupMarkers set
    | 4 => .setGroupTracking set
    | 5 => .setGroupLine set
    | 6 => .setGroupWireTypes set
    | 7 => .setGroupReporting set
    | _ => .unknownRequest 0x03 payload

/-- R198: the command of a whole host frame; `rsvRdy` is the level of RSV_RDY at its moment. -/
def requestOfFrame (rsvRdy : Bool) (f : Frame) : Instr :=
  match f.kind.toNat with
  | 0x01 => .identify f.payload
  | 0x02 => .status f.payload
  | 0x03 => setGroupOfPayload f.payload
  | 0x04 => .getGroup f.payload
  | 0x05 => .startRun f.payload
  | 0x06 => .stopRun f.payload
  | 0x07 => .exposeOnce f.payload rsvRdy
  | 0x08 => .operatorMark f.payload
  | 0x09 => .readLive f.payload
  | 0x0A => .fetchSpans f.payload
  | 0x0B => .fetchEvents f.payload
  | 0x0C => .ackAttention f.payload
  | 0x0D => .readFaults f.payload
  | 0x0E => .clearFaults f.payload
  | 0x0F => .writeCal f.payload
  | 0x10 => .readCal f.payload
  | 0x11 => .storeCal f.payload
  | 0x12 => .calTemperature f.payload
  | 0x13 => .resetPart f.payload
  | _ => .unknownRequest f.kind f.payload

/-- R161: the frame that a sequence of bytes is, when its envelope is whole and its CRC-16 matches. -/
def parseFrame (bytes : List Byte) : Option Frame :=
  match bytes with
  | p0 :: p1 :: l0 :: l1 :: kind :: rest =>
    let n := natOfBytes [l0, l1]
    let payload := rest.take n
    if p0 = 0xA7 ∧ p1 = 0x3C ∧ n ≤ maxPayload ∧ rest.length = n + 2
        ∧ rest.drop n = toBytes 2 (crc16 (crcBytes kind payload)).toNat then
      some { kind := kind, payload := payload }
    else none
  | _ => none

/-- The command that a host frame's bytes stand for. -/
def commandOfBytes (rsvRdy : Bool) (bytes : List Byte) : Option Instr := (parseFrame bytes).map (requestOfFrame rsvRdy)

/-- R198, R201: the frame that carries a host request; the other commands are carried by none. -/
def frameOfRequest : Instr → Option Frame
  | .identify p => some ⟨0x01, p⟩
  | .status p => some ⟨0x02, p⟩
  | .setGroupExposure b => some ⟨0x03, 0 :: b⟩
  | .setGroupOdometry b => some ⟨0x03, 1 :: b⟩
  | .setGroupAttitude b => some ⟨0x03, 2 :: b⟩
  | .setGroupMarkers b => some ⟨0x03, 3 :: b⟩
  | .setGroupTracking b => some ⟨0x03, 4 :: b⟩
  | .setGroupLine b => some ⟨0x03, 5 :: b⟩
  | .setGroupWireTypes b => some ⟨0x03, 6 :: b⟩
  | .setGroupReporting b => some ⟨0x03, 7 :: b⟩
  | .getGroup p => some ⟨0x04, p⟩
  | .startRun p => some ⟨0x05, p⟩
  | .stopRun p => some ⟨0x06, p⟩
  | .exposeOnce p _ => some ⟨0x07, p⟩
  | .operatorMark p => some ⟨0x08, p⟩
  | .readLive p => some ⟨0x09, p⟩
  | .fetchSpans p => some ⟨0x0A, p⟩
  | .fetchEvents p => some ⟨0x0B, p⟩
  | .ackAttention p => some ⟨0x0C, p⟩
  | .readFaults p => some ⟨0x0D, p⟩
  | .clearFaults p => some ⟨0x0E, p⟩
  | .writeCal p => some ⟨0x0F, p⟩
  | .readCal p => some ⟨0x10, p⟩
  | .storeCal p => some ⟨0x11, p⟩
  | .calTemperature p => some ⟨0x12, p⟩
  | .resetPart p => some ⟨0x13, p⟩
  | .unknownRequest k p => some ⟨k, p⟩
  | .powerOnReset _ _ => none
  | .calLoadDone => none
  | .calStoreDone _ => none
  | .hostFrameError _ => none
  | .hostByteGapTimeout => none
  | .hostTxFrameDone => none
  | .armFrameSent _ => none
  | .returnsFrameReceived _ _ _ => none
  | .headFrameError _ _ => none
  | .headByteGapTimeout _ => none
  | .headTimeout _ _ => none
  | .trigInChange => none
  | .trigInFilterExpiry _ => none
  | .periodTimerExpiry _ => none
  | .burstPulseTimer => none
  | .lasAckChange => none
  | .stuckTimerExpiry => none
  | .ackCountDecision => none
  | .blankOutEnd => none
  | .chargeGuardExpiry => none
  | .encoderValidEdge _ _ => none
  | .encoderPhaseError => none
  | .phaseDecayTimer => none
  | .speedGate => none
  | .markerInputChange _ => none
  | .markerDebounceExpiry _ => none
  | .adcConversionDone _ => none
  | .attnPulseEnd => none
  | .hostRxPreamble => none
  | .headRxPreamble _ => none

/-- R1, R200: the ARM frame of a tag, as a head link's transmitter sends it. -/
def armFrame (tag : Byte) : Frame := { kind := 0x40, payload := [tag] }

/-- R200: one return in the 8 bytes of a RETURNS payload. -/
def returnBytes (r : HeadReturn) : List Byte :=
  toBytes 2 r.xh ++ toBytes 2 r.zh ++ toBytes 2 r.wh ++ toBytes 1 r.peak ++ [flagByte r.saturated]

/-- R200: a RETURNS payload. -/
def returnsBytes (f : ReturnsFrame) : List Byte :=
  f.tag :: BitVec.ofNat 8 f.returns.length :: (f.returns.map returnBytes).flatten

end Sys2Proof
end

