-- ==== Sys2Proof/Machine/Flags.lean ====
section
/-! DEFINITION. The flag computations: scan flags (R14, R189), fault marks (R182, R183), attention causes and ATTN_N
(R157, R158). -/

namespace Sys2Proof.Machine

/-! ### Scan flags -/

/-- R14, R189: a scan carrying any flag is degraded. -/
def ScanFlags.degraded (f : ScanFlags) : Bool := f.members.any id

/-- R14: the absence flags that delivery adds. -/
def ScanFlags.withAbsence (f : ScanFlags) (delivered : Pair Bool) : ScanFlags :=
  { f with headAAbsent := f.headAAbsent || !delivered.a, headBAbsent := f.headBAbsent || !delivered.b }

/-! ### Fault records and marks -/

/-- The place of a code's record in the list of 23. -/
def FaultCode.index (c : FaultCode) : Nat := c.number - 1

/-- R180: one occurrence at a position with a value. -/
def FaultRecord.take (pos : Int) (v : FaultValue) (r : FaultRecord) : FaultRecord :=
  { r with
    count := satAdd 65535 r.count 1, first := if r.count = 0 then some pos else r.first, last := some pos,
    value := some v }

/-- R188: CLEAR_FAULTS on one record; the marks stay. -/
def FaultRecord.cleared (r : FaultRecord) : FaultRecord :=
  { r with count := 0, first := none, last := none, value := none }

/-- R183: a span opening clears the span mark and keeps the run mark. -/
def FaultRecord.clearSpanMark (r : FaultRecord) : FaultRecord := { r with spanMark := false }

/-- R183: START_RUN and the entry into STOPPED clear both marks. -/
def FaultRecord.clearMarks (r : FaultRecord) : FaultRecord := { r with spanMark := false, runMark := false }

/-- R182: the marks that an occurrence sets when it produces an event. -/
def FaultRecord.setMarks (spanOpen : Bool) (r : FaultRecord) : FaultRecord :=
  { r with spanMark := r.spanMark || spanOpen, runMark := true }

/-- R182: the mark that is consulted. -/
def FaultRecord.marked (spanOpen : Bool) (r : FaultRecord) : Bool := if spanOpen then r.spanMark else r.runMark

/-- The record of a code. -/
def Report.record (r : Report) (c : FaultCode) : FaultRecord := (r.faults[c.index]?).getD .empty

/-- R169, R186: the sum of the counters of a class's codes. -/
def classTotal (cls : FaultClass) (rs : List FaultRecord) : Nat :=
  ((FaultCode.all.zip rs).map fun p => if p.1.class = cls then p.2.count else 0).sum

/-! ### Attention -/

/-- R150, R157: the records of the span queue that are not in flight. -/
def SpanQueue.available (q : SpanQueue) : Nat := if q.inFlight then q.items.length - 1 else q.items.length

/-- R157: the active causes, masked or not. The level causes follow their conditions. -/
def activeCauses (mark : Nat) (r : Report) : Causes :=
  { spanAvailable := decide (mark ≤ r.spans.available), eventAvailable := decide (r.events.items ≠ []),
    queueLoss := r.lossCause, fault := r.faultCause, runState := r.runCause }

/-- R158: at least one cause that the mask enables is active. -/
def Causes.anyEnabled (c mask : Causes) : Bool :=
  (c.spanAvailable && mask.spanAvailable) || (c.eventAvailable && mask.eventAvailable)
    || (c.queueLoss && mask.queueLoss) || (c.fault && mask.fault) || (c.runState && mask.runState)

/-- R158: ATTN_N is active while an enabled cause is active and no pulse runs. -/
def attnLevel (cfg : ReportingSet) (r : Report) : Bool :=
  r.pulseDue.isNone && (activeCauses cfg.spanMark r).anyEnabled cfg.mask

/-- R158: ATTN_N follows at once. -/
def Report.followAttn (cfg : ReportingSet) (r : Report) : Report := { r with attn := attnLevel cfg r }

end Sys2Proof.Machine
end

