-- ==== Sys2Proof/Machine/Ops.lean ====
section
/-! DEFINITION. The shared operations: time, position, raising a fault, producing an event, storing a span record, taking
a request and building its reply, and the transmit arbiter. -/

namespace Sys2Proof.Machine

/-! ### Time (log entry 2) -/

/-- The clock's units in one µs. -/
def tickPerUs : Nat := 4

/-- `n` µs on the clock. -/
def us (n : Nat) : Nat := tickPerUs * n

/-- `n` ms on the clock. -/
def ms (n : Nat) : Nat := us (1000 * n)

/-- The µs clock of R64. -/
def State.nowUs (s : State) : Nat := s.clock / tickPerUs

/-- A time stamp: ms since the last reset, 32-bit, wrapping (spec 00, Units). -/
def State.timeMs (s : State) : Word32 := BitVec.ofNat 32 (s.clock / ms 1)

/-- An expiry is taken at its due moment, or now when that moment has passed (log entry 2). -/
def State.advanceTo (due : Nat) (s : State) : State := { s with clock := max s.clock due }

/-! ### Position (R42) -/

/-- R42: the position in whole mm, rounded down and saturating. -/
def positionOf (acc : Int) : Int := clamp (-2147483647) 2147483647 (acc / 1000000)

/-- The position held by the Odometer Interface. -/
def State.pos (s : State) : Int := positionOf s.odo.acc

/-! ### Fault records, events and the span queue (R148, R151, R180 to R182) -/

/-- R180: an occurrence updates its code's record. -/
def Report.count (pos : Int) (c : FaultCode) (v : FaultValue) (r : Report) : Report :=
  { r with faults := r.faults.modify c.index (FaultRecord.take pos v) }

/-- R151: the event queue's capacity. -/
def eventCapacity : Nat := 64

/-- R148: the span queue's capacity. -/
def spanCapacity : Nat := 32

/-- The codes of the queues in QUEUE_LOSS (R195). -/
def queueLossValue (queue : Nat) (seq : Word32) : FaultValue := { qualifier := queue, number := seq.toNat }

/-- R151: an event produced at a position takes the next number and is stored with its gap, or is lost with QUEUE_LOSS.
`pos` is the position held, for the record of QUEUE_LOSS. -/
def Report.produce (pos : Int) (time : Word32) (at_ : Int) (body : EventBody) (r : Report) : Report :=
  let q := r.events
  let n := q.seq + 1
  if q.items.length < eventCapacity then
    { r with
      events := { items := q.items ++ [{ seq := n, gap := q.lost, position := at_, time := time, body := body }],
                  seq := n, lastStored := n, lost := 0 } }
  else
    Report.count pos .queueLoss (queueLossValue 1 n)
      { r with events := { q with seq := n, lost := q.lost + 1 }, lossCause := true }

/-- R148: a closed record is stored with its gap, or is lost with QUEUE_LOSS. -/
def Report.storeSpan (pos : Int) (rec : SpanRec) (r : Report) : Report :=
  let q := r.spans
  if q.items.length < spanCapacity then
    { r with
      spans := { q with items := q.items ++ [{ rec with gap := q.lost }], lastStored := rec.seq, lost := 0 } }
  else
    Report.count pos .queueLoss (queueLossValue 0 rec.seq)
      { r with spans := { q with lost := q.lost + 1 }, lossCause := true }

/-- R182: a degrading occurrence. It is counted, sets the FAULT cause, and produces a FAULT event when the mark that is
consulted is clear. -/
def Report.degrade (pos : Int) (time : Word32) (spanOpen : Bool) (c : FaultCode) (v : FaultValue) (r : Report) :
    Report :=
  let counted : Report := { Report.count pos c v r with faultCause := true }
  if (counted.record c).marked spanOpen then counted
  else
    Report.produce pos time pos (.fault c v (counted.record c).count)
      { counted with faults := counted.faults.modify c.index (FaultRecord.setMarks spanOpen) }

/-- R184 in a running state: a halting occurrence is counted, produces its FAULT event and sets the FAULT cause. -/
def Report.halt (pos : Int) (time : Word32) (c : FaultCode) (v : FaultValue) (r : Report) : Report :=
  let counted : Report := { Report.count pos c v r with faultCause := true }
  Report.produce pos time pos (.fault c v (counted.record c).count) counted

/-- An event produced at a position named by its rule (R152). -/
def State.emitAt (at_ : Int) (body : EventBody) (s : State) : State :=
  { s with rep := s.rep.produce s.pos s.timeMs at_ body }

/-- An event produced at the position held (R152). -/
def State.emit (body : EventBody) (s : State) : State := s.emitAt s.pos body

/-- An event to be produced, with its position. -/
structure PlacedEvent where
  position : Int
  body : EventBody
  deriving DecidableEq, Repr

/-- Several events produced in order. -/
def State.emitEach : List PlacedEvent → State → State
  | [], s => s
  | e :: es, s => State.emitEach es (s.emitAt e.position e.body)

/-- Several events produced at one position, in order. -/
def State.emitAllAt (at_ : Int) (bodies : List EventBody) (s : State) : State :=
  s.emitEach (bodies.map fun b => { position := at_, body := b })

/-- A closed record handed to the span queue (R128, R148). -/
def State.storeSpan (rec : SpanRec) (s : State) : State := { s with rep := s.rep.storeSpan s.pos rec }

/-- A notice or a degrading fault is raised (R180 to R182). A halting code given here is counted only; `raiseHalting` of
Machine/Runs.lean takes it in the running states. -/
def State.raise (c : FaultCode) (v : FaultValue) (s : State) : State :=
  match c.class with
  | .notice => { s with rep := s.rep.count s.pos c v }
  | .degrading => { s with rep := s.rep.degrade s.pos s.timeMs s.span.opened.isSome c v }
  | .halting => { s with rep := s.rep.count s.pos c v }

/-- A fault raised several times with one value. -/
def State.raiseTimes (c : FaultCode) (v : FaultValue) : Nat → State → State
  | 0, s => s
  | n + 1, s => State.raiseTimes c v n (s.raise c v)

/-- R178: the code of a head in a fault's qualifier, in the order A, B. -/
def headCode : Head → Nat
  | .a => 0
  | .b => 1

/-! ### Taking items from a queue (R150, R153) -/

/-- The longest run of items from the front, at most `max` of them, that fit in `room` bytes, and the rest. -/
def takeFitting {α : Type} (size : α → Nat) : Nat → Nat → List α → List α × List α
  | 0, _, xs => ([], xs)
  | _ + 1, _, [] => ([], [])
  | n + 1, room, x :: xs =>
    if size x ≤ room then
      let more := takeFitting size n (room - size x) xs
      (x :: more.1, more.2)
    else ([], x :: xs)

/-! ### The transmit arbiter (R166) -/

/-- R167, R201: the READY_REPORT. -/
def readyReport (s : State) : Frame :=
  { kind := 0x60
    payload := u8 s.link.resetKind.code ++ u16 Config.partCode ++ u8 Config.revision ++ u32 s.link.rate
      ++ [if s.cal.valid then 0 else 1] }

/-- R153, R201: an EVENT_REPORT of the given events. -/
def eventReport (es : List Event) : Frame :=
  { kind := 0x61, payload := u8 es.length ++ (es.map Event.bytes).flatten }

/-- R149, R201: the SPAN_REPORT of a record. -/
def spanReport (r : SpanRec) : Frame := { kind := 0x62, payload := r.bytes }

/-- R166: a frame begins. -/
def State.begin (f : Frame) (s : State) : State := { s with link := { s.link with tx := some f } }

/-- R149, R153, R166: the reports, an EVENT_REPORT before a SPAN_REPORT, when streaming is on. -/
def State.offerReports (s : State) : State :=
  if s.cfg.reporting.streaming then
    if s.rep.events.items ≠ [] then
      let split := takeFitting Event.size eventCapacity 1023 s.rep.events.items
      State.begin (eventReport split.1)
        { s with rep := { s.rep with events := { s.rep.events with items := split.2 } } }
    else
      match s.rep.spans.items with
      | r :: _ =>
        if s.rep.spans.inFlight then s
        else State.begin (spanReport r) { s with rep := { s.rep with spans := { s.rep.spans with inFlight := true } } }
      | [] => s
  else s

/-- R166: with the transmitter idle, the first of READY_REPORT, reply, EVENT_REPORT and SPAN_REPORT that is ready begins.
In CLOSING only the reply is chosen, and nothing is while the part starts up (R167). -/
def State.arbitrate (s : State) : State :=
  if s.link.tx.isSome then s
  else
    match s.link.handling with
    | .starting => s
    | .closing =>
      match s.link.slot with
      | some f => State.begin f { s with link := { s.link with slot := none } }
      | none => s
    | .openForRequests | .heldForStop | .heldForTemperature =>
      if s.link.readyPending then
        State.begin (readyReport s) { s with link := { s.link with readyPending := false } }
      else
        match s.link.slot with
        | some f => State.begin f { s with link := { s.link with slot := none } }
        | none => s.offerReports

/-- ATTN_N follows the causes (R158). -/
def State.followAttn (s : State) : State := { s with rep := s.rep.followAttn s.cfg.reporting }

/-- The end of a command that may have made a frame ready or changed a cause: the arbiter acts, then ATTN_N follows (log
entry 12). -/
def State.settle (s : State) : State := s.arbitrate.followAttn

/-- A command's next state. -/
def finish (s : State) : Host.Outcome State Fault Refusal := .next s.settle

/-! ### Requests and replies (R163 to R165) -/

/-- R163: a reply enters the slot when it is built. -/
def State.reply (f : Frame) (s : State) : State := { s with link := { s.link with slot := some f } }

/-- A reply with result fields. -/
def State.accept (kind : Byte) (fields : List Byte) (s : State) : State := s.reply (replyFrame kind .accepted fields)

/-- A refusal without further field (R165). -/
def State.refuse (kind : Byte) (status : Status) (s : State) : State := s.reply (replyFrame kind status [])

/-- A refusal with BAD_VALUE and the failing field's index (R165). -/
def State.refuseValue (kind : Byte) (index : Nat) (s : State) : State := s.reply (badValue kind index)

/-- The host receiver returns to HUNTING at the end of a frame (R162). -/
def State.hostHunt (s : State) : State := { s with link := { s.link with receiver := .hunting } }

/-- R163, R195: a whole frame that finds a request held or the reply slot occupied is discarded with LINK_OVERRUN. DEDUCED
(log entry 16): its value, the frame's kind, stands in the number with qualifier 0. -/
def State.overrun (kind : Byte) (s : State) : State :=
  s.raise .linkOverrun { qualifier := 0, number := kind.toNat }

/-- R163: what happens to a whole host frame of a kind; `act` takes it in OPEN with the slot empty. -/
def State.wholeFrame (kind : Byte) (act : State → State) (s : State) : State :=
  match s.link.handling with
  | .starting => s
  | .closing => s.hostHunt
  | .heldForStop | .heldForTemperature => s.hostHunt.overrun kind
  | .openForRequests => if s.link.slot.isSome then s.hostHunt.overrun kind else act s.hostHunt

/-- R164: a request of a known kind: the length check, the BUSY check of R177 unless the request is STATUS, then the
request's own rule. -/
def State.request (kind : Byte) (lengthOk : Bool) (act : State → State) (s : State) : State :=
  s.wholeFrame kind fun t =>
    if !lengthOk then t.refuse kind .badLength
    else if t.cal.storing then t.refuse kind .busy
    else act t

/-- R170: a SET_GROUP of a group that is taken in STOPPED alone (R40, R49, R58, R89, R114). -/
def State.setInStopped {α : Type} (set : Checked α) (apply : α → Groups → Groups) (s : State) : State :=
  if s.run.state = .stopped then
    match set with
    | .bad i => s.refuseValue 0x03 i
    | .good v => State.accept 0x03 [] { s with cfg := apply v s.cfg }
  else s.refuse 0x03 .wrongState

/-- R170: a SET_GROUP of a group that is staged outside STOPPED (R38, R113). -/
def State.setOrStage {α : Type} (set : Checked α) (apply stage : α → Groups → Groups) (s : State) : State :=
  match set with
  | .bad i => s.refuseValue 0x03 i
  | .good v =>
    if s.run.state = .stopped then State.accept 0x03 [] { s with cfg := apply v s.cfg }
    else State.reply (replyFrame 0x03 .staged []) { s with cfg := stage v s.cfg }

/-! ### Live slot 3 (R29, R155) -/

/-- R155: live slot 3 at a trigger taken or a skip. -/
def State.touchLiveExpo (s : State) : State :=
  { s with
    live := { s.live with
              expo := { s.live.expo with
                        counter := s.expo.counter, skipped := s.expo.skipped, rsvRdy := s.pins.rsvRdy,
                        fresh := true } } }

/-- The level of RSV_RDY at a command's moment (log entry 4). -/
def State.seeRsv (level : Bool) (s : State) : State := { s with pins := { s.pins with rsvRdy := level } }

/-- ARMED, MEASURING and PAUSED are the running states (R136). -/
def RunState.running : RunState → Bool
  | .armed => true
  | .measuring => true
  | .paused => true
  | .stopped => false
  | .faulted => false

end Sys2Proof.Machine
end

