-- ==== Sys2Proof/Machine/Calibration.lean ====
section
/-! DEFINITION. The Calibration Store: the start-up load, WRITE_CAL, READ_CAL, STORE_CAL and the end of a store (R173 to
R177). -/

namespace Sys2Proof.Machine

/-! ### The non-volatile block -/

/-- The bytes of the calibration fields in a block (R199). -/
def calFieldBytes : Nat := 59

/-- What checking a block finds (R174). -/
inductive BlockCheck where
  | passes (fields : CalFields)
  | crcFails
  | fieldFails (index : Nat)
  deriving DecidableEq, Repr

/-- R174: the CRC-32, then every field's range. -/
def checkBlock (block : List Byte) : BlockCheck :=
  let fields := block.take calFieldBytes
  if block.drop calFieldBytes = toBytes 4 (crc32 fields).toNat then
    match checkCal fields with
    | .good f => .passes f
    | .bad i => .fieldFails i
  else .crcFails

/-- A list of bytes cut or filled with zeros to the 63 bytes of a block. -/
def fitBlock (bs : List Byte) : List Byte := (bs ++ List.replicate 63 0).take 63

/-- The same bytes with the last one inverted. -/
def invertLast : List Byte → List Byte
  | [] => []
  | [b] => [~~~ b]
  | b :: c :: bs => b :: invertLast (c :: bs)

/-- R177: what a block holds whose write had not completed when the part was reset. The bytes are free (log entry 8), but
the block fails its check, so bytes that would pass have their last CRC byte inverted. -/
def tornBlock (n : Nat) : List Byte :=
  let bytes := fitBlock (Config.tornBlock n)
  match checkBlock bytes with
  | .passes _ => invertLast bytes
  | .crcFails => bytes
  | .fieldFails _ => bytes

/-- The CRC-32 counts as field 19 in the index that CAL_STORE_FAIL reports (R199). -/
def crcFieldIndex : Nat := 19

/-- R196: the index of the first field whose bytes differ, counted from `n`; the CRC-32's place when every field agrees. -/
def firstDifference : Nat → List Field → List Byte → List Byte → Nat
  | _, [], _, _ => crcFieldIndex
  | n, f :: fs, as, bs =>
    if as.take f.width = bs.take f.width then firstDifference (n + 1) fs (as.drop f.width) (bs.drop f.width) else n

/-- The value of CAL_INVALID (R196): the reason CRC as 0 or FIELD as 1, with the field's index. -/
def calInvalidValue (field : Option Nat) : FaultValue :=
  { qualifier := if field.isSome then 1 else 0, number := (field.getD 0 : Nat) }

/-! ### The load at start-up -/

/-- R174: the working copy and the status that a block gives. -/
def Calibration.load (c : Calibration) : Calibration :=
  let base := { c with modified := false, storing := false, lastResult := .none }
  match checkBlock c.block with
  | .passes f => { base with work := f, valid := true }
  | .crcFails => { base with work := .initial, valid := false }
  | .fieldFails _ => { base with work := .initial, valid := false }

/-- R174: CAL_INVALID when the block fails. -/
def raiseCalInvalid (block : List Byte) (s : State) : State :=
  match checkBlock block with
  | .passes _ => s
  | .crcFails => s.raise .calInvalid (calInvalidValue none)
  | .fieldFails i => s.raise .calInvalid (calInvalidValue (some i))

/-- R167: the load ends. The calibration is set, the READY_REPORT becomes pending, request handling opens and the receiver
hunts. -/
def State.loadCalibration (s : State) : State :=
  let t := raiseCalInvalid s.cal.block { s with cal := s.cal.load }
  { t with link := { t.link with readyPending := true, handling := .openForRequests, receiver := .hunting } }

/-- CAL_LOAD_DONE (R167, R174). Outside STARTING no load is in progress and nothing happens (log entry 3). -/
def execCalLoadDone (s : State) : Host.Outcome State Fault Refusal :=
  if s.link.handling = .starting then finish s.loadCalibration else finish s

/-! ### Requests -/

/-- R175: every field of the working copy takes its new value. -/
def State.writeCal (f : CalFields) (s : State) : State :=
  { s with cal := { s.cal with work := f, modified := true } }

/-- WRITE_CAL (R175). -/
def execWriteCal (payload : List Byte) (s : State) : Host.Outcome State Fault Refusal :=
  finish (s.request 0x0F (decide (payload.length = calFieldBytes)) fun t =>
    if t.run.state = .stopped then
      match checkCal payload with
      | .bad i => t.refuseValue 0x0F i
      | .good f => State.accept 0x0F [] (t.writeCal f)
    else t.refuse 0x0F .wrongState)

/-- The result fields of READ_CAL: the working copy, the calibration status and the modified indication (log entry 15). -/
def readCalBytes (c : Calibration) : List Byte := calBytes c.work ++ [if c.valid then 0 else 1, flagByte c.modified]

/-- READ_CAL (R175). -/
def execReadCal (payload : List Byte) (s : State) : Host.Outcome State Fault Refusal :=
  finish (s.request 0x10 (decide (payload.length = 0)) fun t => t.accept 0x10 (readCalBytes t.cal))

/-- STORE_CAL (R176). -/
def execStoreCal (payload : List Byte) (s : State) : Host.Outcome State Fault Refusal :=
  finish (s.request 0x11 (decide (payload.length = 0)) fun t =>
    if t.run.state = .stopped then State.accept 0x11 [] { t with cal := { t.cal with storing := true } }
    else t.refuse 0x11 .wrongState)

/-! ### The end of a store -/

/-- R176: the store ends with what the read-back found in the block. -/
def State.endStore (readBack : List Byte) (s : State) : State :=
  let image := calImage s.cal.work
  if readBack = image then
    { s with
      cal := { s.cal with
               block := readBack, storing := false, lastResult := .verified, valid := true, modified := false } }
  else
    State.raise .calStoreFail { qualifier := 0, number := firstDifference 0 calFields readBack image }
      { s with cal := { s.cal with block := readBack, storing := false, lastResult := .failed, modified := true } }

/-- CAL_STORE_DONE (R176). With no store in progress nothing happens (log entry 3). -/
def execCalStoreDone (readBack : List Byte) (s : State) : Host.Outcome State Fault Refusal :=
  if s.cal.storing then finish (s.endStore readBack) else finish s

end Sys2Proof.Machine
end

