-- ==== Sys2Proof/Machine/Attitude.lean ====
section
/-! DEFINITION. The Attitude Converter: readings, snapshots, beam temperature, strain and CAL_TEMPERATURE (R59 to R70). -/

namespace Sys2Proof.Machine

/-! ### Displacement, roll, bounce, lateral shift (R62, R63) -/

/-- R62. -/
def displacement (gain zero reading : Int) : Int := roundDiv ((reading - zero) * gain) 65536

/-- R63, from three readings and the working copy. -/
def snapshotOf (c : CalFields) (vl vr lat : Int) : Snapshot :=
  let dL := displacement c.gainVL c.zeroVL vl
  let dR := displacement c.gainVR c.zeroVR vr
  { roll := clamp (-50000) 50000 (roundDiv ((dL - dR) * 1000) c.spacing)
    bounce := clamp (-100000) 100000 (roundDiv (dL + dR) 2)
    lateral := clamp (-100000) 100000 (displacement c.gainLAT c.zeroLAT lat) }

/-- Zero roll, bounce and lateral shift (R64). -/
def Snapshot.zero : Snapshot := { roll := 0, bounce := 0, lateral := 0 }

/-- A snapshot with its case and its age in ms (R64). -/
structure Judged where
  snapshot : Snapshot
  ageCase : AgeCase
  ageMs : Nat
  deriving DecidableEq, Repr

/-- R64: the age, in µs, from the oldest reading time. -/
def snapshotAge (now : Nat) (vl vr lat : Reading) : Nat := now - min vl.time (min vr.time lat.time)

/-- R64: the case of an age in µs under a maximum age in ms. -/
def ageCaseOf (maxAgeMs age : Nat) : AgeCase :=
  if age ≤ 1000 * maxAgeMs then .fresh else if age ≤ 200000 then .stale else .none

/-- R64: the snapshot at a moment of the µs clock. -/
def judgeSnapshot (c : CalFields) (maxAgeMs now : Nat) (a : Attitude) : Judged :=
  match a.vl.good, a.vr.good, a.lat.good with
  | some vl, some vr, some lat =>
    let age := snapshotAge now vl vr lat
    let case_ := ageCaseOf maxAgeMs age
    { snapshot := if case_ = .none then .zero else snapshotOf c vl.value vr.value lat.value
      ageCase := case_
      ageMs := min 65535 (age / 1000) }
  | _, _, _ => { snapshot := .zero, ageCase := .none, ageMs := 65535 }

/-- The snapshot that the state gives now (R64, R65). -/
def State.judged (s : State) : Judged := judgeSnapshot s.cal.work s.cfg.attitude.maxAge s.nowUs s.att

/-! ### Temperature and strain (R66, R67) -/

/-- R66: the beam temperature, T0 standing for it before the first reading within range. -/
def State.beamTemperature (s : State) : Int := s.att.beam.getD s.cal.work.t0

/-- R66: the temperature of a good reading, in 0.01 °C. -/
def readingTemperature (c : CalFields) (reading : Int) : Int := roundDiv (reading * c.tRef) c.codeRef - 27315

/-- R67. -/
def strainOf (c : CalFields) (t : Int) : Int := clamp (-2000) 2000 (roundDiv (c.alpha * (t - c.t0)) 100)

/-- The strain now (R67). -/
def State.strain (s : State) : Int := strainOf s.cal.work s.beamTemperature

/-! ### Completing a reading (R60) -/

/-- R59: a conversion hits full scale at either end of the code range. -/
def fullScale (code : Int) : Bool := decide (code = -8388608) || decide (code = 8388607)

/-- R60: half the difference of the two codes. -/
def chopped (forward reversed : Int) : Int := roundDiv (forward - reversed) 2

/-- R201: the code of a channel in ATT_OVERRANGE. -/
def AdcChannel.code : AdcChannel → Nat
  | .vl => 0
  | .vr => 1
  | .lat => 2
  | .temp => 3

/-- R60: an attitude channel after a good reading. -/
def AttChannel.take (value : Int) (time : Nat) (_c : AttChannel) : AttChannel :=
  { good := some { value := value, time := time }, discarded := false }

/-- R60: an attitude channel after a discarded reading. -/
def AttChannel.discard (c : AttChannel) : AttChannel := { c with discarded := true }

/-- One attitude channel changed; TEMP is none of them. -/
def Attitude.changeChannel (ch : AdcChannel) (f : AttChannel → AttChannel) (a : Attitude) : Attitude :=
  match ch with
  | .vl => { a with vl := f a.vl }
  | .vr => { a with vr := f a.vr }
  | .lat => { a with lat := f a.lat }
  | .temp => a

/-- R65: live slot 1. -/
def State.touchLiveAttitude (s : State) : State :=
  let j := s.judged
  { s with
    live := { s.live with
              attitude := { snapshot := j.snapshot, ageMs := j.ageMs, ageCase := j.ageCase,
                            discardedVL := s.att.vl.discarded, discardedVR := s.att.vr.discarded,
                            discardedLAT := s.att.lat.discarded, fresh := true } } }

/-- R67: live slot 2. -/
def State.touchLiveTemp (s : State) : State :=
  { s with
    live := { s.live with
              temp := { temperature := s.beamTemperature, strain := s.strain, held := s.att.held, fresh := true } } }

/-- R60: a VL, VR or LAT reading completes. -/
def State.attitudeReading (ch : AdcChannel) (forward reversed : Int) (s : State) : State :=
  if fullScale forward || fullScale reversed then
    State.touchLiveAttitude
      (State.raise .attOverrange { qualifier := ch.code, number := 0 }
        { s with att := s.att.changeChannel ch AttChannel.discard })
  else
    State.touchLiveAttitude
      { s with att := s.att.changeChannel ch (AttChannel.take (chopped forward reversed) s.nowUs) }

/-! ### TEMP readings and CAL_TEMPERATURE (R66, R68, R69) -/

/-- R66: a good TEMP reading evaluated with the working copy in force. -/
def State.evaluateTemp (reading : Int) (s : State) : State :=
  let t := readingTemperature s.cal.work reading
  if -4000 ≤ t ∧ t ≤ 8500 then { s with att := { s.att with temp := some reading, beam := some t, held := false } }
  else
    State.raise .tempRange { qualifier := 0, number := t }
      { s with att := { s.att with temp := some reading, held := true } }

/-- R66: a discarded TEMP reading. -/
def State.discardTemp (s : State) : State :=
  State.raise .attOverrange { qualifier := AdcChannel.temp.code, number := 0 } { s with att := { s.att with held := true } }

/-- R69: the pending CAL_TEMPERATURE ends, and request handling reopens with its reply in the slot. -/
def State.endCalTemperature (reply : Frame) (s : State) : State :=
  State.reply reply
    { s with att := { s.att with calTemp := none }, link := { s.link with handling := .openForRequests } }

/-- R69: the new calibration point in the working copy. -/
def State.setTemperaturePoint (reading reference : Int) (s : State) : State :=
  { s with
    cal := { s.cal with
             work := { s.cal.work with codeRef := reading, tRef := reference + 27315 }, modified := true } }

/-- A TEMP reading completes (R60, R66, R67, R69). DESIGN CHOICE (log entry 36): when the reading is what fails, BAD_VALUE
carries index 0. -/
def State.tempReading (forward reversed : Int) (s : State) : State :=
  let reading := chopped forward reversed
  let good := !(fullScale forward || fullScale reversed)
  let t :=
    match s.att.calTemp with
    | none => if good then s.evaluateTemp reading else s.discardTemp
    | some reference =>
      if good && decide (1 ≤ reading) then
        State.endCalTemperature (replyFrame 0x12 .accepted (i32 reading))
          ((s.setTemperaturePoint reading reference).evaluateTemp reading)
      else State.endCalTemperature (badValue 0x12 0) (if good then s.evaluateTemp reading else s.discardTemp)
  t.touchLiveTemp

/-! ### The schedule (R59, R61) -/

/-- R61: the channel and round after a reading. -/
def nextReading (ch : AdcChannel) (round : Nat) : AdcChannel × Nat :=
  match ch with
  | .vl => (.vr, round)
  | .vr => (.lat, round)
  | .lat => if round < 64 then (.vl, round + 1) else (.temp, round)
  | .temp => (.vl, 1)

/-- R59: the length of a conversion on the clock. -/
def conversionTime (osr : Nat) : Nat := us (4 * osr)

/-- R59, R61: the next reading of the schedule begins, at the OSR in force. -/
def State.beginReading (s : State) : State :=
  let next := nextReading s.att.channel s.att.round
  { s with
    att := { s.att with
             channel := next.1, round := next.2, first := none, osr := s.cfg.attitude.osr,
             due := s.clock + conversionTime s.cfg.attitude.osr } }

/-- R60: the forward conversion of a reading ends and the reversed one begins. -/
def State.beginReversed (code : Int) (s : State) : State :=
  { s with att := { s.att with first := some code, due := s.clock + conversionTime s.att.osr } }

/-- R60: the reading of the channel being converted completes. -/
def State.completeReading (forward reversed : Int) (s : State) : State :=
  match s.att.channel with
  | .vl => s.attitudeReading .vl forward reversed
  | .vr => s.attitudeReading .vr forward reversed
  | .lat => s.attitudeReading .lat forward reversed
  | .temp => s.tempReading forward reversed

/-- ADC_CONVERSION_DONE (R59 to R61). -/
def execAdcConversionDone (code : BitVec 24) (s : State) : Host.Outcome State Fault Refusal :=
  let t := s.advanceTo s.att.due
  match t.att.first with
  | none => finish (t.beginReversed code.toInt)
  | some forward => finish (t.completeReading forward code.toInt).beginReading

/-- CAL_TEMPERATURE (R68): a request that is taken is held until the next TEMP reading completes. -/
def execCalTemperature (payload : List Byte) (s : State) : Host.Outcome State Fault Refusal :=
  finish (s.request 0x12 (decide (payload.length = 2)) fun t =>
    if t.run.state = .stopped then
      match checkFields 0 calTemperatureFields (fun _ => none) (fun vs => vs.headD 0) payload with
      | .bad i => t.refuseValue 0x12 i
      | .good reference =>
        { t with
          att := { t.att with calTemp := some reference }, link := { t.link with handling := .heldForTemperature } }
    else t.refuse 0x12 .wrongState)

end Sys2Proof.Machine
end

