-- ==== Sys2Proof/Machine/Geometry.lean ====
section
/-! DEFINITION. Geometry and wear: the thermal shift, stagger, height and wear samples (R72 to R85). -/

namespace Sys2Proof.Machine

/-- The source of a scan's return (R14, R16), in the order of R17 and R18. -/
inductive ReturnSource where
  | a
  | both
  | b
  deriving DecidableEq, Repr

/-- The place of a source in the order A, BOTH, B. -/
def ReturnSource.rank : ReturnSource → Nat
  | .a => 0
  | .both => 1
  | .b => 2

/-- A return of a scan (R18): `xc` in µm, `place` its frame position. -/
structure ScanReturn where
  source : ReturnSource
  xc : Int
  zh : Int
  wh : Nat
  peak : Nat
  saturated : Bool
  place : Nat
  deriving DecidableEq, Repr

/-- A converted return (R79, R80, R85). Its reported stagger and height are `reported s` and `reported h`. -/
structure Converted where
  source : ReturnSource
  xc : Int
  s : Int
  h : Int
  peak : Nat
  saturated : Bool
  indication : WearIndication
  sample : Option WearSample
  deriving DecidableEq, Repr

/-! ### Thermal shift (R73, R74) -/

/-- R74: the shift's magnitude with its sign, for a mount at distance `mount` µm. -/
def headShift (mount strain : Int) : Int := roundDiv (mount * strain) 1000000

/-- R73, R74: x_c in µm of a head's return. -/
def thermalXc (c : CalFields) (reversed : Bool) (strain : Int) (head : Head) (xh : Int) : Int :=
  let x := (if reversed then -xh else xh) * 100
  let shift :=
    match head with
    | .a => headShift c.lA strain
    | .b => headShift c.lB strain
  let left :=
    match head with
    | .a => !reversed
    | .b => reversed
  if left then x - shift else x + shift

/-! ### Height and stagger (R76 to R79) -/

/-- R76. -/
def heightAboveRail (hb bounce zh : Int) : Int := hb + bounce + zh * 100

/-- R77. -/
def staggerOf (xc lateral height roll : Int) : Int := xc + lateral + roundDiv (height * roll) 1000000

/-- R78. -/
def heightOf (height xc roll : Int) : Int := height - roundDiv (xc * roll) 1000000

/-- R79: a working value in the reported form, 0.1 mm. -/
def reported (v : Int) : Int := roundDiv v 100

/-! ### Wear (R80 to R82) -/

/-- R81: the remaining height of a flat of width `w` on a wire of radius `r`. -/
def remainingHeight (r w : Nat) : Nat := r + isqrt (r * r - w * w / 4)

/-- R81, R82: the sample of a remaining height under a wire type of radius `r`. -/
def sampleOf (r wireType remaining : Nat) : WearSample :=
  { remaining := remaining, depth := 2 * r - remaining
    perMille := (roundDiv ((remaining : Int) * 1000) ((2 * r : Nat) : Int)).toNat, wireType := wireType }

/-- R80: the wear indication. -/
def wearIndication (r resolution : Nat) (saturated : Bool) (w : Nat) : WearIndication :=
  if saturated then .saturated
  else if 2 * r ≤ w then .widthImplausible
  else if w < resolution then .belowResolution
  else .sample

/-- R80, R81: the wear sample of an indication. -/
def wearSample (r wireType w : Nat) : WearIndication → Option WearSample
  | .saturated => none
  | .widthImplausible => none
  | .belowResolution => some (sampleOf r wireType (2 * r))
  | .sample => some (sampleOf r wireType (remainingHeight r w))

/-- A slot number as a place. -/
def Ix.ofNat : Nat → Ix
  | 0 => .n0
  | 1 => .n1
  | 2 => .n2
  | _ => .n3

/-- The wire type entry that the LINE group names. -/
def Groups.wireTypeInForce (g : Groups) : WireType := g.wireTypes.get (Ix.ofNat g.line.wireType)

/-- R75 to R82: one return converted with a snapshot in the beam frame. -/
def convertReturn (c : CalFields) (g : Groups) (reversed : Bool) (snap : Snapshot) (r : ScanReturn) : Converted :=
  let roll := if reversed then -snap.roll else snap.roll
  let lateral := if reversed then -snap.lateral else snap.lateral
  let height := heightAboveRail c.hb snap.bounce r.zh
  let radius := g.wireTypeInForce.radius
  let ind := wearIndication radius g.tracking.wearResolution r.saturated r.wh
  { source := r.source, xc := r.xc, s := staggerOf r.xc lateral height roll, h := heightOf height r.xc roll,
    peak := r.peak, saturated := r.saturated, indication := ind, sample := wearSample radius g.line.wireType r.wh ind }

/-! ### The wear window (R83) -/

/-- R83: a sample joins a window of at most five. -/
def pushSample (w : List WearSample) : Option WearSample → List WearSample
  | none => w
  | some x =>
    let longer := w ++ [x]
    if 5 < longer.length then longer.drop 1 else longer

/-- R83: the wear value of a window. -/
def wearValue (w : List WearSample) : Option WearSample :=
  if w.length < 3 then none
  else
    let sorted := sortByKey (fun x : WearSample => [(x.remaining : Int)]) w
    if w.length = 5 then sorted[2]? else sorted[1]?

end Sys2Proof.Machine
end

