-- ==== Sys2Proof/Machine/Assembly.lean ====
section
/-! DEFINITION. The Scan Assembler: allocation, filling, and the return list built at delivery (R5 to R18). -/

namespace Sys2Proof.Machine

/-- R6: the table's capacity. -/
def tableCapacity : Nat := 4

/-- The tag of an exposure: the low eight bits of its number. -/
def tagOf (exposure : Word32) : Byte := exposure.setWidth 8

/-! ### The head's field and the overlap band (R5) -/

/-- R5: the lateral field of a head, lower and upper limit. -/
def headField (c : CalFields) : Head → Int × Int
  | .a => (c.fieldALow, c.fieldAHigh)
  | .b => (c.fieldBLow, c.fieldBHigh)

/-- R5: a return lies inside its head's field, by x_h as received. -/
def insideField (c : CalFields) (h : Head) (r : HeadReturn) : Bool :=
  decide ((headField c h).1 ≤ r.xh) && decide (r.xh ≤ (headField c h).2)

/-- R5: a return lies in the overlap band, by x_h as received. -/
def inBand (c : CalFields) (r : HeadReturn) : Bool :=
  decide (max c.fieldALow c.fieldBLow ≤ r.xh) && decide (r.xh ≤ min c.fieldAHigh c.fieldBHigh)

/-! ### Allocation and filling (R7, R9, R10) -/

/-- R7: the entry of a new exposure. DESIGN CHOICE (log entry 40): until its window opens (R8) the stamp and the thermal
strain are 0 and the snapshot is zero; nothing reads them before. -/
def newEntry (e : ExposureSet) (reversed : Bool) (expected : Pair Bool) (exposure : Word32) : Entry :=
  { exposure := exposure, phase := .allocated, expected := expected, delivered := ⟨false, false⟩,
    headTimeout := e.headTimeout, dedupDx := e.dedupDx, dedupDz := e.dedupDz, reversed := reversed, position := 0,
    windowEnd := none, snapshot := .zero, strain := 0, flags := .empty, returnsA := [], returnsB := [] }

/-- The entry of the table that carries a tag (R6). -/
def entryWithTag (tag : Byte) (table : List Entry) : Option Entry :=
  table.find? fun e => decide (tagOf e.exposure = tag)

/-- The entry of one exposure changed; the others stay. -/
def changeEntry (exposure : Word32) (f : Entry → Entry) (table : List Entry) : List Entry :=
  table.map fun e => if e.exposure = exposure then f e else e

/-- R10: every expected head has delivered, and at least one was expected. -/
def Entry.allDelivered (e : Entry) : Bool :=
  (e.expected.a || e.expected.b) && (!e.expected.a || e.delivered.a) && (!e.expected.b || e.delivered.b)

/-- R9: the entry uses a frame from a head: it is WAITING and the head has not delivered. -/
def Entry.uses (h : Head) (e : Entry) : Bool := decide (e.phase = .waiting) && !(e.delivered.get h)

/-- R9, R10: the head joins the delivered heads, its kept returns are stored, and the entry becomes COMPLETE when every
expected head has delivered. -/
def Entry.fill (h : Head) (kept : List HeadReturn) (e : Entry) : Entry :=
  let f : Entry :=
    match h with
    | .a => { e with delivered := e.delivered.set .a true, returnsA := kept }
    | .b => { e with delivered := e.delivered.set .b true, returnsB := kept }
  if f.allDelivered then { f with phase := .complete } else f

/-- R11: the entry times out. -/
def Entry.timeOut (e : Entry) : Entry := { e with phase := .timedOut }

/-- R13: the oldest entry is delivered when it is COMPLETE or TIMED_OUT. -/
def Entry.due (e : Entry) : Bool :=
  match e.phase with
  | .allocated => false
  | .waiting => false
  | .complete => true
  | .timedOut => true

/-- R11: the end of the entry's head timeout, once its window has ended. -/
def Entry.timeoutDue (e : Entry) : Option Nat := e.windowEnd.map fun t => t + ms e.headTimeout

/-! ### Building the list: step 1 (R14, R73, R74) -/

/-- A head's return in the reported frame, with its place in the overlap band. -/
structure Placed where
  ret : ScanReturn
  band : Bool
  deriving DecidableEq, Repr

/-- The source that one head alone gives. -/
def sourceOf : Head → ReturnSource
  | .a => .a
  | .b => .b

/-- R14, step 1. -/
def placeReturn (c : CalFields) (e : Entry) (h : Head) (r : HeadReturn) : Placed :=
  { ret := { source := sourceOf h, xc := thermalXc c e.reversed e.strain h r.xh, zh := (r.zh : Int), wh := r.wh,
             peak := r.peak, saturated := r.saturated, place := r.place }
    band := inBand c r }

/-! ### Step 2: pairs and merging (R15, R16) -/

/-- A return of A and one of B with the difference of their x_c. -/
structure Sighting where
  a : ScanReturn
  b : ScanReturn
  dx : Int
  deriving DecidableEq, Repr

/-- R15: the two returns form a candidate pair. -/
def isCandidate (e : Entry) (a b : Placed) : Bool :=
  a.band && b.band && decide ((a.ret.xc - b.ret.xc).natAbs ≤ e.dedupDx * 100)
    && decide ((a.ret.zh - b.ret.zh).natAbs ≤ e.dedupDz)

/-- R15: the candidate pairs of a scan in the order in which they are taken. -/
def candidatePairs (e : Entry) (as bs : List Placed) : List Sighting :=
  sortByKey (fun p : Sighting => [p.dx, (p.a.place : Int), (p.b.place : Int)])
    ((as.map fun a => (bs.filter fun b => isCandidate e a b).map fun b =>
        { a := a.ret, b := b.ret, dx := ((a.ret.xc - b.ret.xc).natAbs : Int) : Sighting }).flatten)

/-- R15: pairs taken in order while neither member has joined a taken pair, given by their frame positions. -/
def takePairs : List Nat → List Nat → List Sighting → List Sighting
  | _, _, [] => []
  | as, bs, p :: ps =>
    if as.contains p.a.place || bs.contains p.b.place then takePairs as bs ps
    else p :: takePairs (p.a.place :: as) (p.b.place :: bs) ps

/-- R16: the merged return of a taken pair. It keeps the A member's frame position, which no rule names (log entry 13). -/
def mergePair (p : Sighting) : ScanReturn :=
  let donor := if p.a.peak < p.b.peak then p.b else p.a
  { source := .both, xc := roundDiv (p.a.xc + p.b.xc) 2, zh := roundDiv (p.a.zh + p.b.zh) 2, wh := donor.wh,
    peak := donor.peak, saturated := donor.saturated, place := p.a.place }

/-- R15, R16: the list after merging. -/
def mergeReturns (e : Entry) (as bs : List Placed) : List ScanReturn :=
  let taken := takePairs [] [] (candidatePairs e as bs)
  taken.map mergePair
    ++ ((as.filter fun a => !((taken.map fun p => p.a.place).contains a.ret.place)).map Placed.ret)
    ++ ((bs.filter fun b => !((taken.map fun p => p.b.place).contains b.ret.place)).map Placed.ret)

/-! ### Step 3: the cut, and the order of the list (R17, R18) -/

/-- R17: how many returns a scan keeps. -/
def scanCapacity : Nat := 8

/-- R17: the order of the cut, the return kept first coming first. -/
def cutKey (r : ScanReturn) : List Int := [-(r.peak : Int), r.xc, (r.source.rank : Int), (r.place : Int)]

/-- R18: the order of the scan's list. -/
def listKey (r : ScanReturn) : List Int := [r.xc, (r.source.rank : Int), (r.place : Int)]

/-- R17: the returns kept. -/
def cutReturns (rs : List ScanReturn) : List ScanReturn := (sortByKey cutKey rs).take scanCapacity

/-- A delivered scan (R14, R85): its converted returns in the order of R18 and the number that the cut removed. Its tag is
`tagOf exposure`. -/
structure Scan where
  exposure : Word32
  position : Int
  snapshot : Snapshot
  strain : Int
  flags : ScanFlags
  returns : List Converted
  removed : Nat
  deriving DecidableEq, Repr

/-- R14 to R18: the return list of a delivered entry before conversion, and the number removed. -/
def returnList (c : CalFields) (e : Entry) : List ScanReturn × Nat :=
  let merged := mergeReturns e (e.returnsA.map (placeReturn c e .a)) (e.returnsB.map (placeReturn c e .b))
  (sortByKey listKey (cutReturns merged), merged.length - scanCapacity)

/-- R14, R75: the scan that an entry becomes. -/
def scanOf (c : CalFields) (g : Groups) (e : Entry) : Scan :=
  let list := returnList c e
  { exposure := e.exposure, position := e.position, snapshot := e.snapshot, strain := e.strain,
    flags := e.flags.withAbsence e.delivered
    returns := list.1.map (convertReturn c g e.reversed e.snapshot), removed := list.2 }

end Sys2Proof.Machine
end

