-- ==== Sys2Proof/Machine/Tracker.lean ====
section
/-! DEFINITION. The Wire Tracker: the eight steps that a processed scan passes through (R90 to R111) and the clearing of
the table (R112). -/

namespace Sys2Proof.Machine

/-! ### Step 1: prediction (R92) -/

/-- A predicted stagger and height, µm. -/
structure Prediction where
  s : Int
  h : Int
  deriving DecidableEq, Repr

/-- R92. -/
def Track.predict (pos : Int) (t : Track) : Prediction :=
  { s := t.lastS + roundDiv (t.rate * (pos - t.lastHit)) 1000, h := t.lastH }

/-- A track that is not FREE. -/
def Track.inUse (t : Track) : Bool := decide (t.state ≠ .free)

/-- CONFIRMED or COASTING: a wire of the run (R88). -/
def TrackState.isWire : TrackState → Bool
  | .free => false
  | .tentative => false
  | .confirmed => true
  | .coasting => true

/-! ### Step 2: screening (R93 to R95) -/

/-- A return that left screening, with its index and its low-peak mark. -/
structure Indexed where
  index : Nat
  ret : Converted
  lowPeak : Bool
  deriving DecidableEq, Repr

/-- R89: the hold threshold. -/
def TrackingSet.hold (t : TrackingSet) : Nat := t.accept - t.hysteresis

/-- R94: the upper limit of the height window in mm, lifted while the overlap zone is set. -/
def TrackingSet.ceiling (t : TrackingSet) (zone : Bool) : Nat := if zone then t.windowHigh + t.overlapLift else t.windowHigh

/-- R93, R94: the return stays. -/
def TrackingSet.keeps (t : TrackingSet) (zone : Bool) (r : Converted) : Bool :=
  decide (t.hold ≤ r.peak) && decide ((t.windowLow : Int) * 1000 ≤ r.h) && decide (r.h ≤ (t.ceiling zone : Int) * 1000)

/-- R93 to R95: the indexed returns in ascending stagger. -/
def screen (t : TrackingSet) (zone : Bool) (rs : List Converted) : List Indexed :=
  (numbered 0 (sortByKey (fun r : Converted => [r.s]) (rs.filter (t.keeps zone)))).map fun p =>
    { index := p.1, ret := p.2, lowPeak := decide (p.2.peak < t.accept) }

/-! ### Step 3: merged pairs (R96) -/

/-- Two slots, the lower first. -/
structure SlotPair where
  lo : Slot
  hi : Slot
  deriving DecidableEq, Repr

/-- The six pairs of slots. -/
def slotPairs : List SlotPair :=
  [⟨.n0, .n1⟩, ⟨.n0, .n2⟩, ⟨.n0, .n3⟩, ⟨.n1, .n2⟩, ⟨.n1, .n3⟩, ⟨.n2, .n3⟩]

/-- R96: the two slots are a candidate merged pair. -/
def pairIsClose (t : TrackingSet) (pos : Int) (tracks : Four Track) (p : SlotPair) : Bool :=
  let x := tracks.get p.lo
  let y := tracks.get p.hi
  x.inUse && y.inUse
    && decide (((x.predict pos).s - (y.predict pos).s).natAbs ≤ t.mergeStagger * 1000)
    && decide (((x.predict pos).h - (y.predict pos).h).natAbs ≤ t.mergeHeight * 1000)

/-- R96: the candidate pairs in the order in which they are taken. -/
def closePairs (t : TrackingSet) (pos : Int) (tracks : Four Track) : List SlotPair :=
  sortByKey (fun p : SlotPair =>
      [(((tracks.get p.lo).predict pos).s - ((tracks.get p.hi).predict pos).s).natAbs, (p.lo.num : Int), (p.hi.num : Int)])
    (slotPairs.filter (pairIsClose t pos tracks))

/-- R96: pairs formed in order while neither slot is in a formed pair. -/
def formPairs : Four (Option Slot) → List SlotPair → Four (Option Slot)
  | m, [] => m
  | m, p :: ps =>
    if (m.get p.lo).isSome || (m.get p.hi).isSome then formPairs m ps
    else formPairs ((m.set p.lo (some p.hi)).set p.hi (some p.lo)) ps

/-- R96: the partner of each slot in this scan. -/
def mergedPairs (t : TrackingSet) (pos : Int) (tracks : Four Track) : Four (Option Slot) :=
  formPairs (Four.const none) (closePairs t pos tracks)

/-! ### Step 4: gating and assignment (R97 to R99) -/

/-- R97. -/
def gates (t : TrackingSet) (pos : Int) (tr : Track) (r : Indexed) : Bool :=
  let p := tr.predict pos
  tr.inUse && decide ((r.ret.s - p.s).natAbs ≤ t.staggerGate * 1000)
    && decide ((r.ret.h - p.h).natAbs ≤ t.heightGate * 1000) && (!r.lowPeak || tr.state.isWire)

/-- R97: the cost of a candidate. -/
def candidateCost (pos : Int) (tr : Track) (r : Indexed) : Nat :=
  (r.ret.s - (tr.predict pos).s).natAbs + (r.ret.h - (tr.predict pos).h).natAbs

/-- A track and an indexed return that it gates. -/
structure Candidacy where
  slot : Slot
  ret : Indexed
  cost : Nat
  deriving DecidableEq, Repr

/-- R97, R98: the candidates in the order in which they are taken. -/
def candidacies (t : TrackingSet) (pos : Int) (tracks : Four Track) (rs : List Indexed) : List Candidacy :=
  sortByKey (fun c : Candidacy => [(c.cost : Int), (c.slot.num : Int), (c.ret.index : Int)])
    ((Ix.all.map fun k => (rs.filter (gates t pos (tracks.get k))).map fun r =>
        { slot := k, ret := r, cost := candidateCost pos (tracks.get k) r : Candidacy }).flatten)

/-- What a track took (R98, R99): whether its hit is marked shared, and whether the track joined its partner's return by
R99, which the outcome then calls SHARED_HIT (spec 6.13). -/
structure Assigned where
  ret : Indexed
  shared : Bool
  joined : Bool
  deriving DecidableEq, Repr

/-- A return has been assigned. -/
def isAssigned (a : Four (Option Assigned)) (index : Nat) : Bool :=
  a.toList.any fun x => match x with
    | some y => decide (y.ret.index = index)
    | none => false

/-- R99, second condition: the return was assigned to that slot. -/
def tookReturn (a : Four (Option Assigned)) (k : Slot) (index : Nat) : Bool :=
  match a.get k with
  | some y => decide (y.ret.index = index)
  | none => false

/-- R99, third condition: this return alone is gated by either of two slots. -/
def onlyReturnGated (all : List Candidacy) (k p : Slot) (index : Nat) : Bool :=
  all.all fun c => if c.slot = k ∨ c.slot = p then decide (c.ret.index = index) else true

/-- R98, R99: one candidate taken. DEDUCED (log entry 34): both tracks of a joined return are shared, and the joining one
alone is marked joined, whose outcome is SHARED_HIT. -/
def assignOne (merged : Four (Option Slot)) (all : List Candidacy) (a : Four (Option Assigned)) (c : Candidacy) :
    Four (Option Assigned) :=
  if (a.get c.slot).isSome then a
  else if !isAssigned a c.ret.index then a.set c.slot (some { ret := c.ret, shared := false, joined := false })
  else
    match merged.get c.slot with
    | some p =>
      if tookReturn a p c.ret.index && onlyReturnGated all c.slot p c.ret.index then
        (a.set p (some { ret := c.ret, shared := true, joined := false })).set c.slot
          (some { ret := c.ret, shared := true, joined := true })
      else a
    | none => a

/-- R98, R99: all candidates taken in order. -/
def assignAll (merged : Four (Option Slot)) (cs : List Candidacy) : Four (Option Assigned) :=
  cs.foldl (assignOne merged cs) (Four.const none)

/-! ### Step 5: hits, rates and confirmation (R100 to R103) -/

/-- R101: the rate after a hit that is not shared. -/
def newRate (pos : Int) (t : Track) (s : Int) : Int :=
  let inst := if pos = t.lastHit then 0 else roundDiv ((s - t.lastS) * 1000) (pos - t.lastHit)
  clamp (-20000) 20000 (roundDiv (3 * t.rate + inst) 4)

/-- R100, R101: a track takes its return. -/
def Track.hit (pos : Int) (a : Assigned) (t : Track) : Track :=
  { t with
    rate := if a.shared then t.rate else newRate pos t a.ret.ret.s
    lastS := a.ret.ret.s, lastH := a.ret.ret.h, lastHit := pos, hits := satAdd 65535 t.hits 1,
    peak := some a.ret.ret.peak, indication := some a.ret.ret.indication, wear := pushSample t.wear a.ret.ret.sample }

/-- R103: the id after an id, in 1..65,535. -/
def idAfter (n : Nat) : Nat := if 65535 ≤ n then 1 else n + 1

/-- R103: a CONFIRMED or COASTING track holds the id. -/
def idHeld (tracks : Four Track) (n : Nat) : Bool :=
  tracks.toList.any fun t => t.state.isWire && decide (t.wireId = some n)

/-- R103: the first id from the counter on that no wire holds; at most three are skipped. -/
def freeId (tracks : Four Track) : Nat → Nat → Nat
  | 0, n => n
  | k + 1, n => if idHeld tracks n then freeId tracks k (idAfter n) else n

/-- The ending of a track (R105, R109, R110). -/
structure Ending where
  wireId : Nat
  reason : EndReason
  deriving DecidableEq, Repr

/-- What the steps have made so far: the tracks, the id counter, the events, the values of TRACK_SLOTS_FULL, which slots
confirmed and which ended. -/
structure Processing where
  tracks : Four Track
  nextId : Nat
  events : List EventBody
  full : List Int
  confirmed : Four Bool
  ended : Four (Option Ending)
  deriving DecidableEq, Repr

/-- R102: a track that has just taken its hit changes state. -/
def Processing.afterHit (confirmHits : Nat) (k : Slot) (t : Track) (p : Processing) : Processing :=
  match t.state with
  | .free => { p with tracks := p.tracks.set k t }
  | .confirmed => { p with tracks := p.tracks.set k t }
  | .coasting => { p with tracks := p.tracks.set k { t with state := .confirmed, coasted := 0 } }
  | .tentative =>
    if t.hits = confirmHits then
      let id := freeId p.tracks 4 p.nextId
      { p with
        tracks := p.tracks.set k { t with state := .confirmed, wireId := some id }
        nextId := idAfter id
        events := p.events ++ [.trackConfirmed k id (reported t.lastS) (reported t.lastH)]
        confirmed := p.confirmed.set k true }
    else { p with tracks := p.tracks.set k t }

/-- Step 5 for one slot. -/
def Processing.hitSlot (t : TrackingSet) (pos : Int) (asg : Four (Option Assigned)) (p : Processing) (k : Slot) :
    Processing :=
  match asg.get k with
  | some a => p.afterHit t.confirmHits k ((p.tracks.get k).hit pos a)
  | none => p

/-! ### Step 6: misses (R104, R105) -/

/-- R104: what every miss does. -/
def Track.miss (t : Track) : Track := { t with hits := 0, peak := none, indication := none }

/-- R105: the coasted distance after more travel. -/
def Track.coast (travel : Int) (t : Track) : Track := { t with coasted := satAdd 11000 t.coasted travel.toNat }

/-- Step 6 for one slot. -/
def Processing.missSlot (t : TrackingSet) (travel : Int) (asg : Four (Option Assigned)) (p : Processing) (k : Slot) :
    Processing :=
  match asg.get k with
  | some _ => p
  | none =>
    let tr := (p.tracks.get k).miss
    match tr.state with
    | .free => p
    | .tentative => { p with tracks := p.tracks.set k .empty }
    | .confirmed => { p with tracks := p.tracks.set k { tr with state := .coasting, coasted := 0 } }
    | .coasting =>
      let far := tr.coast travel
      if t.coastDistance < far.coasted then
        { p with
          tracks := p.tracks.set k .empty
          events := p.events ++ [.trackEnded k (tr.wireId.getD 0) .coastedOut tr.lastHit none]
          ended := p.ended.set k (some { wireId := tr.wireId.getD 0, reason := .coastedOut }) }
      else { p with tracks := p.tracks.set k far }

/-! ### Step 7: new tracks (R106, R107) -/

/-- R106. -/
def newTrack (pos : Int) (r : Converted) : Track :=
  { Track.empty with
    state := .tentative, lastS := r.s, lastH := r.h, lastHit := pos, hits := 1, wear := pushSample [] r.sample,
    peak := some r.peak, indication := some r.indication }

/-- The lowest FREE slot. -/
def firstFree (tracks : Four Track) : Option Slot := Ix.all.find? fun k => !(tracks.get k).inUse

/-- Step 7 for one untaken return. -/
def Processing.startTrack (pos : Int) (p : Processing) (r : Indexed) : Processing :=
  match firstFree p.tracks with
  | some k => { p with tracks := p.tracks.set k (newTrack pos r.ret) }
  | none => { p with full := p.full ++ [reported r.ret.s] }

/-- R106: the untaken returns that may start a track, in ascending index. -/
def untaken (asg : Four (Option Assigned)) (rs : List Indexed) : List Indexed :=
  rs.filter fun r => !isAssigned asg r.index && !r.lowPeak

/-! ### Step 8: merged distance and duplicates (R108, R109) -/

/-- R108: the merged distance of a slot. -/
def mergedDistanceOf (travel : Int) (tracks : Four Track) (t : Track) : Int :=
  match t.mergedWith with
  | some p =>
    if t.state.isWire && (tracks.get p).state.isWire then
      if t.previousPartner = some p then t.mergedDistance + travel else travel
    else 0
  | none => 0

/-- R108 for every slot: merged distances first, then previous partners. -/
def updateMerged (travel : Int) (tracks : Four Track) : Four Track :=
  tracks.map fun t => { t with mergedDistance := mergedDistanceOf travel tracks t, previousPartner := t.mergedWith }

/-- R109: a pair whose merged distance exceeds the duplicate length loses its higher slot. -/
def Processing.endDuplicate (t : TrackingSet) (p : Processing) (k : Slot) : Processing :=
  let lo := p.tracks.get k
  match lo.mergedWith with
  | some j =>
    if k.num < j.num ∧ (t.duplicateLength : Int) < lo.mergedDistance then
      let hi := p.tracks.get j
      { p with
        tracks := (p.tracks.set j .empty).set k { lo with mergedDistance := 0 }
        events := p.events ++ [.trackEnded j (hi.wireId.getD 0) .duplicate hi.lastHit lo.wireId]
        ended := p.ended.set j (some { wireId := hi.wireId.getD 0, reason := .duplicate }) }
    else p
  | none => p

/-! ### The eight steps (R91) -/

/-- R90: a processed scan's travel. -/
def Tracker.travel (t : Tracker) (pos : Int) : Int := if pos < t.lastScan then 0 else pos - t.lastScan

/-- Step 3 written into the slots. -/
def withMerged (m : Four (Option Slot)) (tracks : Four Track) : Four Track :=
  Four.tabulate fun k => { tracks.get k with mergedWith := m.get k }

/-- What steps 2 to 4 give: the indexed returns, the tracks with their partners, and what each track took. -/
structure Matching where
  indexed : List Indexed
  tracks : Four Track
  assigned : Four (Option Assigned)
  deriving DecidableEq, Repr

/-- Steps 1 to 4. -/
def matchScan (t : TrackingSet) (zone : Bool) (tracks : Four Track) (scan : Scan) : Matching :=
  let rs := screen t zone scan.returns
  let merged := mergedPairs t scan.position tracks
  { indexed := rs, tracks := withMerged merged tracks
    assigned := assignAll merged (candidacies t scan.position tracks rs) }

/-- Steps 5 to 8. -/
def runSteps (t : TrackingSet) (trk : Tracker) (pos : Int) (m : Matching) : Processing :=
  let start : Processing :=
    { tracks := m.tracks, nextId := trk.nextId, events := [], full := [], confirmed := Four.const false,
      ended := Four.const none }
  let hit := Ix.all.foldl (Processing.hitSlot t pos m.assigned) start
  let missed := Ix.all.foldl (Processing.missSlot t (trk.travel pos) m.assigned) hit
  let started := (untaken m.assigned m.indexed).foldl (Processing.startTrack pos) missed
  Ix.all.foldl (Processing.endDuplicate t) { started with tracks := updateMerged (trk.travel pos) started.tracks }

/-! ### The outcome (R110) -/

/-- What became of a slot; `endedAndNew` is a slot that ended at step 6 and was taken by a new track at step 7. -/
inductive SlotResult where
  | none
  | hit
  | sharedHit
  | miss
  | new
  | ended
  | endedAndNew
  deriving DecidableEq, Repr

/-- The outcome of one slot: `ended` is the ending of the track it held, `s` and `h` the working values of the return
taken or the prediction missed, and `mergedWith` the partner as formed at step 3. State, wire id and wear are those of
`track`, the slot after the scan. -/
structure SlotOutcome where
  result : SlotResult
  ended : Option Ending
  confirmed : Bool
  mergedWith : Option Slot
  s : Int
  h : Int
  track : Track
  deriving DecidableEq, Repr

/-- The outcome of a scan. -/
structure Outcome where
  scan : Scan
  slots : Four SlotOutcome
  deriving DecidableEq, Repr

/-- R110: what became of a slot, from its track before and after the scan. A TENTATIVE track that misses ends without a
report (R104), so a slot that it leaves at step 6 and a new track takes at step 7 is NEW alone (DESIGN CHOICE, log entry 37). -/
def slotResult (before after : TrackState) (asg : Option Assigned) (ended : Option Ending) : SlotResult :=
  match ended, asg with
  | some _, _ => if after = .tentative then .endedAndNew else .ended
  | none, some a => if a.joined then .sharedHit else .hit
  | none, none =>
    match before, after with
    | .free, .free => .none
    | .free, _ => .new
    | _, .tentative => .new
    | _, _ => .miss

/-- R110: the outcome of one slot; `formed` is its partner as formed at step 3. -/
def slotOutcome (before : Track) (pos : Int) (formed : Option Slot) (asg : Option Assigned) (confirmed : Bool)
    (ended : Option Ending) (after : Track) : SlotOutcome :=
  let predicted := before.predict pos
  let values : Int × Int :=
    match asg with
    | some a => (a.ret.ret.s, a.ret.ret.h)
    | none => (predicted.s, predicted.h)
  { result := slotResult before.state after.state asg ended, ended := ended, confirmed := confirmed, mergedWith := formed,
    s := values.1, h := values.2, track := after }

/-- R110. -/
def outcomeOf (before : Four Track) (scan : Scan) (m : Matching) (p : Processing) : Outcome :=
  { scan := scan
    slots := Four.tabulate fun k =>
      slotOutcome (before.get k) scan.position (m.tracks.get k).mergedWith (m.assigned.get k) (p.confirmed.get k)
        (p.ended.get k) (p.tracks.get k) }

/-- R110: the number of CONFIRMED tracks left by the scan. -/
def Outcome.confirmedCount (o : Outcome) : Nat :=
  (o.slots.toList.filter fun x => decide (x.track.state = .confirmed)).length

/-! ### Live slots 4..7 (R111) -/

/-- R111, R155: the live slot of a track. -/
def liveOf (t : Track) : LiveTrack :=
  { state := t.state, wireId := t.wireId.getD 0, stagger := reported t.lastS, height := reported t.lastH,
    wear := wearValue t.wear, lastHit := t.lastHit, peak := t.peak, indication := t.indication,
    mergedWith := t.mergedWith, fresh := true }

/-- R111: the live slots after a scan or a clearing; a slot FREE before and after is not updated. -/
def liveAfter (before after : Four Track) (live : Four LiveTrack) : Four LiveTrack :=
  Four.tabulate fun k =>
    if (before.get k).inUse || (after.get k).inUse then liveOf (after.get k) else live.get k

/-! ### On the state -/

/-- TRACK_SLOTS_FULL, a notice, for each return dropped (R107). -/
def State.raiseSlotsFull : List Int → State → State
  | [], s => s
  | v :: vs, s => State.raiseSlotsFull vs (s.raise .trackSlotsFull { qualifier := 0, number := v })

/-- R91, R110, R111: the tracker processes a scan, with its events, faults and live slots, and hands on the outcome. -/
def State.track (scan : Scan) (s : State) : State × Outcome :=
  let m := matchScan s.cfg.tracking s.mark.zone s.trk.tracks scan
  let p := runSteps s.cfg.tracking s.trk scan.position m
  let t := State.raiseSlotsFull p.full (State.emitAllAt scan.position p.events s)
  ({ t with
      trk := { tracks := p.tracks, nextId := p.nextId, lastScan := scan.position }
      live := { t.live with tracks := liveAfter s.trk.tracks p.tracks t.live.tracks } },
    outcomeOf s.trk.tracks scan m p)

/-- R112: every slot FREE, the id counter and the last scan position kept. -/
def State.clearTracks (s : State) : State :=
  { s with
    trk := { s.trk with tracks := Four.const .empty }
    live := { s.live with tracks := liveAfter s.trk.tracks (Four.const .empty) s.live.tracks } }

end Sys2Proof.Machine
end

