-- ==== Sys2Proof/Machine/Spans.lean ====
section
/-! DEFINITION. The Span Builder: accumulation, registration capture, candidates, closes and openings, exceedance monitors
and the wire-loss watch (R113 to R135). -/

namespace Sys2Proof.Machine

/-- The counts of span records and summaries stop at 65,535 (spec 7.2). -/
def count16 (a b : Nat) : Nat := satAdd 65535 a b

/-! ### Summaries (R118, R119) -/

/-- R118: the most summaries a span holds. -/
def summaryCapacity : Nat := 6

/-- R118: a summary as it is appended. -/
def newSummary (wireId : Nat) (pos : Int) (presentAtOpen : Bool) : Summary :=
  { wireId := wireId, presentAtOpen := presentAtOpen, presentAtClose := false, firstPos := pos, lastPos := pos, hits := 0,
    coasted := 0, extremes := none, sAtOpen := none, sAtClose := none, minRemaining := none, excOpened := 0 }

/-- R118: extremes extended by reported values. -/
def extendExtremes (s h : Int) : Option Extremes → Extremes
  | none => { sMin := s, sMax := s, hMin := h, hMax := h }
  | some e => { sMin := min e.sMin s, sMax := max e.sMax s, hMin := min e.hMin h, hMax := max e.hMax h }

/-- R119: the lower remaining height, the earlier one on equal heights. -/
def lowerRemaining (pos : Int) (w : Option WearSample) (m : Option MinRemaining) : Option MinRemaining :=
  match w, m with
  | none, m => m
  | some x, none => some { height := x.remaining, position := pos }
  | some x, some y => if x.remaining < y.height then some { height := x.remaining, position := pos } else some y

/-- What a slot gives to a scan (R118). -/
inductive Contribution where
  | hit
  | coasted
  deriving DecidableEq, Repr

/-- R118: the contribution of a slot with its wire id, if any. -/
def SlotOutcome.contribution (x : SlotOutcome) : Option (Nat × Contribution) :=
  if x.track.state.isWire then
    match x.result with
    | .hit => some (x.track.wireId.getD 0, .hit)
    | .sharedHit => some (x.track.wireId.getD 0, .hit)
    | .miss => some (x.track.wireId.getD 0, .coasted)
    | .none => none
    | .new => none
    | .ended => none
    | .endedAndNew => none
  else none

/-- R118, R119: a summary takes a scan. -/
def Summary.take (pos : Int) (x : SlotOutcome) (c : Contribution) (y : Summary) : Summary :=
  let lowered := lowerRemaining pos (wearValue x.track.wear) y.minRemaining
  match c with
  | .hit =>
    { y with lastPos := pos, hits := count16 y.hits 1, minRemaining := lowered
             extremes := some (extendExtremes (reported x.s) (reported x.h) y.extremes) }
  | .coasted => { y with lastPos := pos, coasted := count16 y.coasted 1, minRemaining := lowered }

/-- The span holds a summary of the wire. -/
def SpanRec.hasWire (id : Nat) (r : SpanRec) : Bool := r.summaries.any fun y => decide (y.wireId = id)

/-- The summary of a wire changed. -/
def SpanRec.changeWire (id : Nat) (f : Summary → Summary) (r : SpanRec) : SpanRec :=
  { r with summaries := r.summaries.map fun y => if y.wireId = id then f y else y }

/-- R118: one contributing wire joins a span; `presentAtOpen` is what an appended summary takes. -/
def SpanRec.takeWire (pos : Int) (presentAtOpen : Bool) (x : SlotOutcome) (id : Nat) (c : Contribution) (r : SpanRec) :
    SpanRec :=
  if r.hasWire id then r.changeWire id (Summary.take pos x c)
  else if r.summaries.length < summaryCapacity then
    { r with summaries := r.summaries ++ [(newSummary id pos presentAtOpen).take pos x c] }
  else { r with truncated := true }

/-! ### Accumulation (R117) -/

/-- The target of a scan or skip (R117, R120). -/
inductive Target where
  | provisional
  | opened
  | none
  deriving DecidableEq, Repr

/-- R117: the target of a position. -/
def SpanBuilder.target (pos : Int) (b : SpanBuilder) : Target :=
  let rest := if b.opened.isSome then Target.opened else Target.none
  match b.candidate with
  | some c => if c.position ≤ pos then .provisional else rest
  | none => rest

/-- The record of a target. -/
def SpanBuilder.record (t : Target) (b : SpanBuilder) : Option SpanRec :=
  match t with
  | .provisional => b.provisional
  | .opened => b.opened
  | .none => none

/-- The record of a target changed. -/
def SpanBuilder.changeTarget (t : Target) (f : SpanRec → SpanRec) (b : SpanBuilder) : SpanBuilder :=
  match t with
  | .provisional => { b with provisional := b.provisional.map f }
  | .opened => { b with opened := b.opened.map f }
  | .none => b

/-- R117: the counts and flags that a scan changes. -/
def SpanRec.countScan (scan : Scan) (zone extra : Bool) (r : SpanRec) : SpanRec :=
  { r with
    scans := count16 r.scans 1, degraded := count16 r.degraded (if scan.flags.degraded then 1 else 0)
    uncalibrated := r.uncalibrated || scan.flags.uncalibrated, overlapSeen := r.overlapSeen || zone
    extraWire := r.extraWire || extra }

/-- R118: every contributing wire of a scan, in ascending slot order. -/
def SpanRec.takeWires (pos : Int) (presentAtOpen : Bool) (slots : List SlotOutcome) (r : SpanRec) : SpanRec :=
  slots.foldl (fun acc x =>
    match x.contribution with
    | some (id, c) => acc.takeWire pos presentAtOpen x id c
    | none => acc) r

/-- R122: the registration stagger of a contributing slot. -/
def registrationOf (x : SlotOutcome) (c : Contribution) : Registration :=
  { value := reported x.s, predicted := decide (c = .coasted) }

/-- R122: s at open in the record that the first scan reached. -/
def SpanRec.captureOpen (slots : List SlotOutcome) (r : SpanRec) : SpanRec :=
  slots.foldl (fun acc x =>
    match x.contribution with
    | some (id, c) =>
      acc.changeWire id fun y => { y with sAtOpen := some (registrationOf x c), presentAtOpen := true }
    | none => acc) r

/-- R122: s at close in the open span. -/
def SpanRec.captureClose (slots : List SlotOutcome) (r : SpanRec) : SpanRec :=
  slots.foldl (fun acc x =>
    match x.contribution with
    | some (id, c) => acc.changeWire id fun y => { y with sAtClose := some (registrationOf x c) }
    | none => acc) r

/-- R122: whether the first scan of a target captures: always in a provisional span; in an open span only when it opened
at a qualification. DESIGN CHOICE (log entry 41): scans merged back from a failed candidate count as accumulated, so that a
span they have joined has had its first scan. -/
def captures (t : Target) (r : SpanRec) : Bool :=
  decide (r.scans = 0) &&
    match t with
    | .provisional => true
    | .opened => decide (r.openSource ≠ .none)
    | .none => false

/-- R118: whether a summary appended now takes present at open: the first scan of a span opened at a LONG_SPAN
close. DESIGN CHOICE (log entry 41): merged scans count. -/
def firstOfLongSpan (t : Target) (r : SpanRec) : Bool :=
  decide (t = .opened) && decide (r.scans = 0) && decide (r.openSource = .none)

/-- R117, R118: a target's record takes a scan. -/
def SpanRec.takeScan (t : Target) (o : Outcome) (zone extra : Bool) (r : SpanRec) : SpanRec :=
  let pos := o.scan.position
  let slots := o.slots.toList
  let full := (r.countScan o.scan zone extra).takeWires pos (firstOfLongSpan t r) slots
  if captures t r then full.captureOpen slots else full

/-- R110, R117: the wire view after an outcome. -/
def viewOf (o : Outcome) : Four ViewEntry :=
  o.slots.map fun x => { state := x.track.state, wireId := x.track.wireId }

/-- R117 to R122: the Span Builder accumulates an outcome. -/
def SpanBuilder.accumulate (o : Outcome) (zone : Bool) (wiresPerLine : Nat) (b : SpanBuilder) : SpanBuilder :=
  let t := b.target o.scan.position
  let extra := !zone && decide (wiresPerLine < o.confirmedCount)
  let capturing := decide (t = .provisional) && (b.record t).elim false (captures t)
  let seen : SpanBuilder := { b with view := viewOf o }
  let taken := seen.changeTarget t (SpanRec.takeScan t o zone extra)
  if capturing then { taken with opened := taken.opened.map (SpanRec.captureClose o.slots.toList) } else taken

/-! ### Exceedance monitors (R130 to R133) -/

/-- The monitor of a kind. -/
def Monitors.get (m : Monitors) : MonitorKind → Option Monitor
  | .stagger => m.stagger
  | .heightLow => m.heightLow
  | .wear => m.wear

/-- The monitor of a kind replaced. -/
def Monitors.set (m : Monitors) (k : MonitorKind) (x : Option Monitor) : Monitors :=
  match k with
  | .stagger => { m with stagger := x }
  | .heightLow => { m with heightLow := x }
  | .wear => { m with wear := x }

/-- The kinds in their order (R133). -/
def MonitorKind.all : List MonitorKind := [.stagger, .heightLow, .wear]

/-- R130: the value of a monitor at a scan; WEAR has none without a wear value. -/
def monitorValue (k : MonitorKind) (x : SlotOutcome) : Option Int :=
  match k with
  | .stagger => some (reported x.s)
  | .heightLow => some (reported x.h)
  | .wear => (wearValue x.track.wear).map fun w => (w.remaining : Int)

/-- The minimum remaining height of the type that a wear value carries (R131). -/
def minRemainingOf (types : Four WireType) (w : WearSample) : Nat := (types.get (Ix.ofNat w.wireType)).minRemaining

/-- R130, R131: the test for opening. -/
def monitorOpens (line : LineSet) (types : Four WireType) (zone : Bool) (k : MonitorKind) (x : SlotOutcome) : Bool :=
  match k with
  | .stagger => !zone && decide (line.staggerLimit * 1000 < x.s.natAbs)
  | .heightLow => decide (x.h < (line.heightLow : Int) * 1000)
  | .wear => (wearValue x.track.wear).elim false fun w => decide (w.remaining < minRemainingOf types w)

/-- R130, R132: the test for closing. -/
def monitorCloses (line : LineSet) (types : Four WireType) (k : MonitorKind) (x : SlotOutcome) : Bool :=
  match k with
  | .stagger => decide ((x.s.natAbs : Int) ≤ ((line.staggerLimit : Int) - line.staggerHyst) * 1000)
  | .heightLow => decide (((line.heightLow : Int) + line.heightHyst) * 1000 ≤ x.h)
  | .wear => (wearValue x.track.wear).elim false fun w => decide (minRemainingOf types w + line.wearHyst ≤ w.remaining)

/-- R130, R132: the value lies further beyond the limit than the peak. -/
def furtherBeyond (k : MonitorKind) (value peak : Int) : Bool :=
  match k with
  | .stagger => decide (peak.natAbs < value.natAbs)
  | .heightLow => decide (value < peak)
  | .wear => decide (value < peak)

/-- R132: the monitor takes a value into its peak. -/
def Monitor.takePeak (k : MonitorKind) (pos value : Int) (m : Monitor) : Monitor :=
  if furtherBeyond k value m.peak then { m with peak := value, peakPos := pos } else m

/-- R132, R133: the event of a close. -/
def excCloseOf (k : MonitorKind) (slot : Slot) (reason : ExcReason) (at_ : Int) (m : Monitor) : EventBody :=
  .excClose k slot m.wireId reason m.openPos m.peak m.peakPos (if at_ < m.openPos then 0 else at_ - m.openPos)

/-- Where a scan stands for its monitors: its stamp, and the position held (R152). -/
structure ScanPlace where
  stamp : Int
  held : Int
  deriving DecidableEq, Repr

/-- What testing monitors has made: the monitors of a slot, the events with their positions, and how many opened. -/
structure Testing where
  monitors : Monitors
  events : List PlacedEvent
  opened : Nat
  deriving DecidableEq, Repr

/-- R131, R132: one monitor tested on a hit contribution. EXC_OPEN has the stamp that R131 lets it carry as its position
(log entry 18); for EXC_CLOSE with reason RETURNED R132 names no position, and R152 gives it the position held. -/
def testMonitor (line : LineSet) (types : Four WireType) (zone : Bool) (slot : Slot) (at_ : ScanPlace) (x : SlotOutcome)
    (t : Testing) (k : MonitorKind) : Testing :=
  match monitorValue k x with
  | none => t
  | some v =>
    match t.monitors.get k with
    | none =>
      if monitorOpens line types zone k x then
        let id := x.track.wireId.getD 0
        { monitors := t.monitors.set k (some { wireId := id, openPos := at_.stamp, peak := v, peakPos := at_.stamp })
          events := t.events ++ [{ position := at_.stamp, body := .excOpen k slot id v }], opened := t.opened + 1 }
      else t
    | some m =>
      let peaked := m.takePeak k at_.stamp v
      if monitorCloses line types k x then
        { t with
          monitors := t.monitors.set k none
          events := t.events ++ [{ position := at_.held, body := excCloseOf k slot .returned at_.stamp peaked }] }
      else { t with monitors := t.monitors.set k (some peaked) }

/-- R131, R132: the three monitors of a slot with a hit contribution. -/
def testSlot (line : LineSet) (types : Four WireType) (zone : Bool) (slot : Slot) (at_ : ScanPlace) (x : SlotOutcome)
    (m : Monitors) : Testing :=
  MonitorKind.all.foldl (testMonitor line types zone slot at_ x) { monitors := m, events := [], opened := 0 }

/-- The events that close every open monitor of a slot (R133). -/
def closeEvents (reason : ExcReason) (at_ : Int) (slot : Slot) (m : Monitors) : List EventBody :=
  MonitorKind.all.filterMap fun k => (m.get k).map (excCloseOf k slot reason at_)

/-- The events that close every open monitor, in ascending slot order (R133). -/
def closeAllEvents (reason : ExcReason) (at_ : Int) (ms : Four Monitors) : List EventBody :=
  (Ix.all.map fun k => closeEvents reason at_ k (ms.get k)).flatten

/-- The events that close every open WEAR monitor (R133). -/
def closeWearEvents (at_ : Int) (ms : Four Monitors) : List EventBody :=
  Ix.all.filterMap fun k => (ms.get k).wear.map (excCloseOf .wear k .typeChanged at_)

/-- R133: the monitors of ended slots close at the scan's stamp. -/
def State.closeEndedMonitors (o : Outcome) (s : State) : State :=
  let pos := o.scan.position
  let gone (k : Slot) : Bool := (o.slots.get k).ended.isSome
  let events := (Ix.all.map fun k =>
    if gone k then closeEvents .trackEnded pos k (s.span.monitors.get k) else []).flatten
  State.emitAllAt pos events
    { s with
      span := { s.span with monitors := Four.tabulate fun k => if gone k then .closed else s.span.monitors.get k } }

/-- R131, R132: the monitors of one slot at a scan taken in MEASURING. -/
def State.testSlotMonitors (o : Outcome) (s : State) (k : Slot) : State :=
  let x := o.slots.get k
  let pos := o.scan.position
  match x.contribution with
  | some (id, .hit) =>
    let t := testSlot s.cfg.line s.cfg.wireTypes s.mark.zone k { stamp := pos, held := s.pos } x (s.span.monitors.get k)
    let raised := s.span.changeTarget (s.span.target pos)
      (SpanRec.changeWire id fun y => { y with excOpened := count16 y.excOpened t.opened })
    State.emitEach t.events { s with span := { raised with monitors := s.span.monitors.set k t.monitors } }
  | some (_, .coasted) => s
  | none => s

/-- R131 to R133: the monitors at a scan. -/
def State.testMonitors (o : Outcome) (s : State) : State :=
  let t := s.closeEndedMonitors o
  if t.run.state = .measuring then Ix.all.foldl (State.testSlotMonitors o) t else t

/-! ### The wire-loss watch (R134) -/

/-- A track confirmed in the scan. -/
def Outcome.anyConfirmed (o : Outcome) : Bool := o.slots.toList.any fun x => x.confirmed

/-- R134: the watch at an outcome taken in MEASURING. -/
def State.watchWires (o : Outcome) (s : State) : State :=
  let pos := o.scan.position
  if s.run.state = .measuring then
    let armed := s.span.watchArmed || o.anyConfirmed
    let ref := if o.anyConfirmed || decide (1 ≤ o.confirmedCount) then pos else s.span.watchRef
    if armed && decide (o.confirmedCount = 0) && decide ((s.cfg.line.wireLoss : Int) * 1000 < pos - ref) then
      State.raise .wireLoss { qualifier := 0, number := (pos - ref) / 1000 }
        { s with span := { s.span with watchArmed := false, watchRef := ref } }
    else { s with span := { s.span with watchArmed := armed, watchRef := ref } }
  else s

/-- R117 to R134: the Span Builder takes an outcome. -/
def State.takeOutcome (o : Outcome) (s : State) : State :=
  let t := { s with span := s.span.accumulate o s.mark.zone s.cfg.line.wiresPerLine }
  (t.testMonitors o).watchWires o

/-! ### Closing (R128) -/

/-- R128, step 1: the wire view holds the wire in a CONFIRMED or COASTING slot. -/
def inView (view : Four ViewEntry) (id : Nat) : Bool :=
  view.toList.any fun v => v.state.isWire && decide (v.wireId = some id)

/-- R128: the record as it is handed to the span queue. -/
def SpanRec.closed (view : Four ViewEntry) (reason : CloseReason) (stop : Int) (source : Source) (seq : Word32)
    (r : SpanRec) : SpanRec :=
  { r with
    seq := seq, stop := stop, reason := reason, closeSource := source
    summaries := r.summaries.map fun y =>
      { y with presentAtClose := inView view y.wireId, sAtClose := if reason = .mast then y.sAtClose else none } }

/-- R128: the open span closes; nothing happens when none is open. -/
def State.closeSpan (reason : CloseReason) (stop : Int) (source : Source) (s : State) : State :=
  match s.span.opened with
  | some r =>
    let n := s.span.seq + 1
    State.storeSpan (r.closed s.span.view reason stop source n)
      { s with span := { s.span with opened := none, seq := n } }
  | none => s

/-- The number that a close now would give, for the events that carry it (R123, R146). -/
def State.closingNumber (s : State) : Option Word32 := s.span.opened.map fun _ => s.span.seq + 1

/-! ### Opening (R113, R116) -/

/-- R116: a provisional record, or a span opened at a LONG_SPAN close before its opening steps. -/
def SpanRec.startingAt (start : Int) : SpanRec :=
  { seq := 0, gap := 0, run := 0, start := start, stop := 0, reason := .mast, openSource := .none, closeSource := .none,
    wireType := 0, wireCode := 0, spanMin := 0, spanMax := 0, overlapSeen := false, extraWire := false,
    uncalibrated := false, truncated := false, scans := 0, degraded := 0, skipped := 0, ignored := 0, rejected := 0,
    summaries := [] }

/-- R119: the minimum remaining of every summary cleared. -/
def SpanRec.clearRemaining (r : SpanRec) : SpanRec :=
  { r with summaries := r.summaries.map fun y => { y with minRemaining := none } }

/-- R113: a staged LINE set would change the active wire type. -/
def Groups.lineTypeChanges (g : Groups) : Bool :=
  match g.stagedLine with
  | some l => decide (l.wireType ≠ g.line.wireType)
  | none => false

/-- R113: the staged LINE set becomes active. -/
def Groups.applyLine (g : Groups) : Groups :=
  match g.stagedLine with
  | some l => { g with line := l, stagedLine := none }
  | none => g

/-- R84, R113, R133: what a new wire type does at a span opening: windows emptied and WEAR monitors closed. -/
def State.changeWireType (s : State) : State :=
  State.emitAllAt s.pos (closeWearEvents s.pos s.span.monitors)
    { s with
      trk := { s.trk with tracks := s.trk.tracks.map fun t => { t with wear := [] } }
      span := { s.span with monitors := s.span.monitors.map fun m => { m with wear := none } } }

/-- R183: a span opening clears the span marks. -/
def State.clearSpanMarks (s : State) : State :=
  { s with rep := { s.rep with faults := s.rep.faults.map FaultRecord.clearSpanMark } }

/-- R116, steps 2 to 4: what the record takes at its opening. -/
def SpanRec.open_ (run : Nat) (g : Groups) (source : Source) (valid : Bool) (r : SpanRec) : SpanRec :=
  { r with
    run := run, openSource := source, wireType := g.line.wireType, wireCode := g.wireTypeInForce.code
    spanMin := g.line.spanMin, spanMax := g.line.spanMax, uncalibrated := r.uncalibrated || !valid }

/-- R116: a record becomes the open span. -/
def State.openSpan (source : Source) (r : SpanRec) (s : State) : State :=
  let changes := s.cfg.lineTypeChanges
  let t := if changes then s.changeWireType else s
  let u := { t with cfg := t.cfg.applyLine }
  let cleared := if changes then r.clearRemaining else r
  State.clearSpanMarks
    { u with span := { u.span with opened := some (cleared.open_ u.run.number u.cfg source u.cal.valid) } }

/-! ### Merging (R125) -/

/-- The lower of two values that may be absent. -/
def mergeExtremes : Option Extremes → Option Extremes → Option Extremes
  | none, y => y
  | some x, none => some x
  | some x, some y =>
    some { sMin := min x.sMin y.sMin, sMax := max x.sMax y.sMax, hMin := min x.hMin y.hMin, hMax := max x.hMax y.hMax }

/-- R125: the lower minimum remaining, the open span's on equal values. -/
def mergeRemaining : Option MinRemaining → Option MinRemaining → Option MinRemaining
  | none, y => y
  | some x, none => some x
  | some x, some y => if y.height < x.height then some y else some x

/-- R125: an open span's summary joined by the provisional span's. -/
def mergeSummary (o p : Summary) : Summary :=
  { o with
    lastPos := p.lastPos, hits := count16 o.hits p.hits, coasted := count16 o.coasted p.coasted
    excOpened := count16 o.excOpened p.excOpened, extremes := mergeExtremes o.extremes p.extremes
    minRemaining := mergeRemaining o.minRemaining p.minRemaining }

/-- R125: one provisional summary joins the open span. -/
def SpanRec.joinSummary (r : SpanRec) (p : Summary) : SpanRec :=
  if r.hasWire p.wireId then r.changeWire p.wireId fun o => mergeSummary o p
  else if r.summaries.length < summaryCapacity then
    { r with summaries := r.summaries ++ [{ p with presentAtOpen := false, sAtOpen := none }] }
  else { r with truncated := true }

/-- R125: every s at close cleared. -/
def SpanRec.clearAtClose (r : SpanRec) : SpanRec :=
  { r with summaries := r.summaries.map fun y => { y with sAtClose := none } }

/-- R125: the open span joined by the provisional span. -/
def mergeSpans (o p : SpanRec) : SpanRec :=
  SpanRec.clearAtClose
    (p.summaries.foldl SpanRec.joinSummary
      { o with
        scans := count16 o.scans p.scans, degraded := count16 o.degraded p.degraded
        skipped := count16 o.skipped p.skipped, ignored := count16 o.ignored p.ignored
        rejected := count16 o.rejected p.rejected, overlapSeen := o.overlapSeen || p.overlapSeen
        extraWire := o.extraWire || p.extraWire, uncalibrated := o.uncalibrated || p.uncalibrated
        truncated := o.truncated || p.truncated })

/-- R124, R125, R129: the provisional span leaves, into the open span when there is one; the candidate goes with it. -/
def SpanBuilder.foldBack (b : SpanBuilder) : SpanBuilder :=
  let joined :=
    match b.opened, b.provisional with
    | some o, some p => some (mergeSpans o p)
    | o, _ => o
  { b with opened := joined, provisional := none, candidate := none }

/-- R120, R124: candidates rejected rise by one. -/
def SpanBuilder.reject (b : SpanBuilder) : SpanBuilder :=
  { b with opened := b.opened.map fun r => { r with rejected := count16 r.rejected 1 } }

/-! ### Candidates (R121 to R124) -/

/-- ARMED and MEASURING, the states in which mast reports are acted on (R121). -/
def RunState.acting : RunState → Bool
  | .armed => true
  | .measuring => true
  | .stopped => false
  | .paused => false
  | .faulted => false

/-- R121: the candidate is too close to the start of the open span. -/
def SpanBuilder.tooShort (pos : Int) (b : SpanBuilder) : Bool :=
  match b.opened with
  | some r => decide (pos - r.start < (r.spanMin : Int) * 1000)
  | none => false

/-- R121: a candidate asserted. -/
def State.candidateAsserted (pos : Int) (source : Source) (s : State) : State :=
  if s.run.state.acting then
    if s.span.tooShort pos then
      State.emit (.mast .ignored pos source none none)
        { s with
          span := { s.span with opened := s.span.opened.map fun r => { r with ignored := count16 r.ignored 1 } } }
    else
      { s with
        span := { s.span with
                  candidate := some { position := pos, source := source, longDue := false }
                  provisional := some (.startingAt pos) } }
  else s

/-- R123, steps 1 to 4: a candidate qualified at the current position. -/
def State.settleQualified (source : Source) (c : Candidate) (s : State) : State :=
  let number := s.closingNumber
  let fresh := s.span.provisional.getD (.startingAt c.position)
  let closed := s.closeSpan .mast c.position source
  let opened := State.openSpan source fresh
    { closed with span := { closed.span with provisional := none, candidate := none } }
  opened.emit (.mast .qualified c.position source (some s.pos) number)

/-- R126, R127: the open span closes LONG_SPAN at an end, and a new one opens there. -/
def State.closeLong (stop : Int) (s : State) : State :=
  State.openSpan .none (.startingAt stop) (s.closeSpan .longSpan stop .none)

/-- R126: start plus span maximum. -/
def SpanRec.limit (r : SpanRec) : Int := r.start + (r.spanMax : Int) * 1000

/-- R127: the end of a LONG_SPAN close deferred to a failure at a position. -/
def SpanRec.deferredEnd (pos : Int) (r : SpanRec) : Int := if pos < r.limit then r.limit else pos

/-- R124, R127: a candidate failed at the current position. -/
def State.candidateFailed (s : State) : State :=
  match s.span.candidate with
  | none => s
  | some c =>
    let back := s.span.foldBack
    if s.run.state = .measuring then
      let t := { s with span := back.reject }
      match c.longDue, t.span.opened with
      | true, some r => t.closeLong (r.deferredEnd s.pos)
      | _, _ => t
    else { s with span := back }

/-! ### The span maximum (R126, R127) -/

/-- R127: the largest qualify distance among the mast source's members. -/
def MarkerSet.reach (m : MarkerSet) : Nat :=
  match m.mast with
  | .mk1 => m.qualify.e0
  | .mk2 => m.qualify.e1
  | .either => max m.qualify.e0 m.qualify.e1
  | .both => max m.qualify.e0 m.qualify.e1

/-- R126, R127: the span maximum at a change of position. -/
def State.checkSpanMaximum (s : State) : State :=
  match s.run.state, s.span.opened with
  | .measuring, some r =>
    if r.limit ≤ s.pos then
      match s.span.candidate with
      | none => s.closeLong r.limit
      | some c =>
        let hard := r.limit + (s.cfg.markers.reach : Int)
        if hard ≤ s.pos then State.closeLong hard { s with span := s.span.foldBack.reject }
        else { s with span := { s.span with candidate := some { c with longDue := true } } }
    else s
  | _, _ => s

/-! ### Run transitions (R129) and skips (R120) -/

/-- R128: the end of a span closed RUN_END or FAULT. -/
def State.currentEnd (s : State) : Int :=
  match s.span.opened with
  | some r => if s.pos < r.start then r.start else s.pos
  | none => s.pos

/-- R129: what the Span Builder holds is closed with a reason and an end. -/
def State.tearDownSpans (reason : CloseReason) (stop : Int) (s : State) : State :=
  let t := State.closeSpan reason stop .none { s with span := s.span.foldBack }
  State.emitAllAt t.pos (closeAllEvents .runEnd t.pos t.span.monitors)
    { t with
      span := { t.span with
                monitors := Four.const .closed, watchArmed := false, watchRef := 0, view := Four.const .free } }

/-- R120: a skip is counted in its target. -/
def State.skipInSpan (s : State) : State :=
  { s with
    span := s.span.changeTarget (s.span.target s.pos) fun r => { r with skipped := count16 r.skipped 1 } }

end Sys2Proof.Machine
end

