-- ==== Sys2Proof/Machine/Runs.lean ====
section
/-! DEFINITION. The Run Controller: the changes of run state with what each block does at them, START_RUN and STOP_RUN
(R136 to R147, R184). -/

namespace Sys2Proof.Machine

/-! ### Changing the run state (R136, R146) -/

/-- R146: the changes that set the RUN_STATE attention cause. -/
def RunCause.madeByPart : RunCause → Bool
  | .startRun => false
  | .stopRun => false
  | .firstMast => true
  | .reverse => true
  | .forwardResumed => true
  | .haltingFault => true

/-- R146: the run state changes, with its RUN_STATE event and the attention cause. -/
def State.changeRun (new : RunState) (cause : RunCause) (fc : Option FaultCode) (closed : Option Word32)
    (furthest : Option Int) (s : State) : State :=
  let t := s.emit (.runState s.run.state new cause s.run.number fc closed furthest)
  { t with
    run := { t.run with state := new, cause := some cause, causeFault := fc }
    rep := { t.rep with runCause := t.rep.runCause || cause.madeByPart } }

/-! ### Ending an exposure (R36, R37) -/

/-- R36: the charge guard starts at a window end when quiet charging is on; a guard of 0 µs has elapsed at once. -/
def State.startGuard (s : State) : State :=
  if s.cfg.exposure.quiet then
    if s.cfg.exposure.chargeGuard = 0 then { s with expo := { s.expo with guardDue := none, chgEn := true } }
    else { s with expo := { s.expo with guardDue := some (s.clock + us s.cfg.exposure.chargeGuard) } }
  else s

/-- R20: a trigger has been taken and its window has not ended. -/
def ExpoState.unfinished : ExpoState → Bool
  | .ready => false
  | .arming => true
  | .window => true
  | .blank => false

/-- R37: an exposure in ARMING or WINDOW ends at once; a pending acknowledge count is abandoned in every state. -/
def State.endExposure (s : State) : State :=
  if s.expo.state.unfinished then
    { s with
      expo := { s.expo with
                state := .ready, burst := none, stuckDue := none, ack := none, expSync := false, lasDrv := false } }
  else { s with expo := { s.expo with ack := none } }

/-! ### Transitions made by the part (R141 to R144) -/

/-- R141: the first qualification moves the run to MEASURING and arms the watch (R134). -/
def State.startMeasuring (s : State) : State :=
  State.changeRun .measuring .firstMast none none none
    { s with span := { s.span with watchArmed := true, watchRef := s.pos } }

/-- R123, R141: the mast source's qualified report at the current position. -/
def State.candidateQualified (source : Source) (s : State) : State :=
  match s.run.state, s.span.candidate with
  | .armed, some c => (s.settleQualified source c).startMeasuring
  | .measuring, some c => s.settleQualified source c
  | _, _ => s

/-- R142: the run pauses on REVERSE with the furthest position reported. -/
def State.pauseRun (furthest : Int) (s : State) : State :=
  if s.run.state.acting then
    State.changeRun .paused .reverse none s.closingNumber (some furthest)
      (s.tearDownSpans .reverse furthest).clearTracks
  else s

/-- R143: the run resumes on FORWARD_RESUMED. -/
def State.resumeRun (s : State) : State :=
  if s.run.state = .paused then State.changeRun .armed .forwardResumed none none (some s.odo.furthest) s else s

/-- R36, R37: the exposure at the entry into FAULTED; a window cut short counts as ended for the charge guard. -/
def State.faultExposure (s : State) : State :=
  if s.expo.state.unfinished then s.endExposure.startGuard else s.endExposure

/-- R144: the run moves to FAULTED. -/
def State.enterFaulted (c : FaultCode) (s : State) : State :=
  let cleared := (s.tearDownSpans .fault s.currentEnd).clearTracks
  State.changeRun .faulted .haltingFault (some c) s.closingNumber none
    (State.faultExposure { cleared with table := [] })

/-- R184: a halting fault; in a running state its event and cause come first and the run moves to FAULTED. -/
def State.raiseHalting (c : FaultCode) (v : FaultValue) (s : State) : State :=
  if s.run.state.running then State.enterFaulted c { s with rep := s.rep.halt s.pos s.timeMs c v }
  else { s with rep := s.rep.count s.pos c v }

/-! ### START_RUN (R137, R138) -/

/-- R136: the number of the next run. -/
def nextRunNumber (n : Nat) : Nat := if 65535 ≤ n then 1 else n + 1

/-- R48: the Odometer Interface at START_RUN. -/
def Odo.startRun (start : Int) (o : Odo) : Odo :=
  { o with
    acc := start * 1000000, history := List.replicate 10 (start * 1000000), furthest := start, backTravel := false,
    phaseLevel := 0 }

/-- R20, R22, R25, R36: the Exposure Controller at START_RUN. -/
def Expo.startRun (start : Int) (now period : Nat) (e : Expo) : Expo :=
  { e with counter := 0, skipped := 0, gridBase := start, periodDue := some (now + ms period), chgEn := true }

/-- R52: a channel at START_RUN. -/
def Channel.startRun (c : Channel) : Channel :=
  { c with state := if c.filter.accepted = some true then .held else .idle }

/-- R52, R56: Marker Logic at START_RUN. -/
def Markers.startRun (m : Markers) : Markers :=
  { channels := m.channels.map Channel.startRun, mast := .idle, zone := false }

/-- R183: both marks of every code cleared. -/
def State.clearMarks (s : State) : State :=
  { s with rep := { s.rep with faults := s.rep.faults.map FaultRecord.clearMarks } }

/-- R138: the run starts. Its RUN_STATE event is stamped with the position held when the cause is taken (log entry 17). -/
def State.startRun (start : Int) (s : State) : State :=
  let numbered : State := { s with run := { s.run with number := nextRunNumber s.run.number } }
  let t := numbered.changeRun .armed .startRun none none none
  State.clearMarks
    { t with
      odo := t.odo.startRun start, expo := t.expo.startRun start t.clock t.cfg.exposure.period
      mark := t.mark.startRun, trk := { Tracker.initial with lastScan := start }
      span := { SpanBuilder.initial with seq := t.span.seq } }

/-- START_RUN (R137). -/
def execStartRun (payload : List Byte) (s : State) : Host.Outcome State Fault Refusal :=
  finish (s.request 0x05 (decide (payload.length = 4)) fun t =>
    if t.run.state = .stopped then
      match checkFields 0 startRunFields (fun _ => none) (fun vs => vs.headD 0) payload with
      | .bad i => t.refuseValue 0x05 i
      | .good start =>
        let u := t.startRun start
        u.accept 0x05 (u16 u.run.number)
    else t.refuse 0x05 .wrongState)

/-! ### STOP_RUN (R139, R140) -/

/-- R38, R113: the staged sets become active. -/
def Groups.applyStaged (g : Groups) : Groups :=
  { g.applyLine with exposure := g.stagedExposure.getD g.exposure, stagedExposure := none }

/-- R52: a channel at the entry into STOPPED. -/
def Channel.toIdle (c : Channel) : Channel := { c with state := .idle }

/-- R52: Marker Logic at the entry into STOPPED. -/
def Markers.toIdle (m : Markers) : Markers := { m with channels := m.channels.map Channel.toIdle, mast := .idle }

/-- R25, R36: the charger, the guard and the period timer at the entry into STOPPED. -/
def Expo.stopTimers (e : Expo) : Expo := { e with periodDue := none, guardDue := none, chgEn := false }

/-- R139: the run stops. -/
def State.stopRun (s : State) : State :=
  let cleared := (s.tearDownSpans .runEnd s.currentEnd).clearTracks
  let t := State.endExposure { cleared with table := [] }
  State.clearMarks
    (State.changeRun .stopped .stopRun none s.closingNumber none
      { t with cfg := t.cfg.applyStaged, expo := t.expo.stopTimers, mark := t.mark.toIdle })

/-- R140: the result fields of the STOP_RUN reply. -/
def stopFields (number : Nat) (closed : Option Word32) : List Byte :=
  u16 number ++ [maskByte [closed.isSome]] ++ w32 (closed.getD 0)

/-- R140: the reply is built at once in READY and held otherwise. -/
def State.answerStop (closed : Option Word32) (s : State) : State :=
  if s.expo.state = .ready then s.accept 0x06 (stopFields s.run.number closed)
  else { s with link := { s.link with handling := .heldForStop, stopClosed := closed } }

/-- STOP_RUN (R139, R140). -/
def execStopRun (payload : List Byte) (s : State) : Host.Outcome State Fault Refusal :=
  finish (s.request 0x06 (decide (payload.length = 0)) fun t =>
    if t.run.state = .stopped then t.refuse 0x06 .wrongState else t.stopRun.answerStop t.closingNumber)

/-- R140: the held STOP_RUN reply is built once the exposure state is READY. -/
def State.releaseStop (s : State) : State :=
  if s.link.handling = .heldForStop then
    State.accept 0x06 (stopFields s.run.number s.link.stopClosed)
      { s with link := { s.link with handling := .openForRequests, stopClosed := none } }
  else s

end Sys2Proof.Machine
end

