-- ==== Sys2Proof/Machine/Exposure.lean ====
section
/-! DEFINITION. The Exposure Controller: triggers, taking and skipping, the window, its checks, blank-out and charging (R20
to R39). -/

namespace Sys2Proof.Machine

/-! ### Skips (R27 to R29) -/

/-- The reasons of R29. -/
inductive SkipReason where
  | busy
  | armLeaving
  | gridPassed
  | reservoir
  | full
  deriving DecidableEq, Repr

/-- R29: the skipped total after one more skip. -/
def countSkip (n : Nat) : Nat := satAdd 4294967295 n 1

/-- R191: the number of the entry that holds the table. -/
def oldestExposure (table : List Entry) : Nat :=
  match table with
  | e :: _ => e.exposure.toNat
  | [] => 0

/-- R29, R191: the fault of a skip; TRIGGER_OVERRUN carries its reason, BUSY, ARM_LEAVING or GRID_PASSED from 0. -/
def State.raiseSkip (r : SkipReason) (s : State) : State :=
  match r with
  | .busy => s.raise .triggerOverrun { qualifier := 0, number := 0 }
  | .armLeaving => s.raise .triggerOverrun { qualifier := 1, number := 0 }
  | .gridPassed => s.raise .triggerOverrun { qualifier := 2, number := 0 }
  | .reservoir => s.raise .reservoirLow { qualifier := 0, number := s.expo.skipped }
  | .full => s.raise .assemblyFull { qualifier := 0, number := oldestExposure s.table }

/-- R29: a skip adds to the total, raises its fault, is reported to the Span Builder, and updates live slot 3. -/
def State.skip (r : SkipReason) (s : State) : State :=
  State.touchLiveExpo
    (State.skipInSpan (State.raiseSkip r { s with expo := { s.expo with skipped := countSkip s.expo.skipped } }))

/-- Several skips of one reason (R23). -/
def State.skipTimes (r : SkipReason) : Nat → State → State
  | 0, s => s
  | n + 1, s => State.skipTimes r n (s.skip r)

/-! ### Taking a trigger (R27, R39) -/

/-- R27: a head link is still sending an ARM frame. -/
def State.armLeaving (s : State) : Bool := s.heads.a.arm.isSome || s.heads.b.arm.isSome

/-- R27, R28: why a trigger is skipped, if it is. -/
def State.triggerSkip (s : State) : Option SkipReason :=
  if s.expo.state ≠ .ready then some .busy
  else if s.armLeaving then some .armLeaving
  else if !s.pins.rsvRdy then some .reservoir
  else if tableCapacity ≤ s.table.length then some .full
  else none

/-- R39: the grid base when a set becomes active at a trigger taken. -/
def gridBaseFor (old new : ExposureSet) (furthest base : Int) : Int :=
  if new.mode = .distance ∧ old.mode ≠ .distance then furthest else base

/-- R39: the period timer when a set becomes active at a trigger taken. DESIGN CHOICE (log entry 35): when the set neither
changes the mode to TIMED nor the period in TIMED mode, a running timer keeps its due moment. -/
def periodDueFor (old new : ExposureSet) (now : Nat) (due : Option Nat) : Option Nat :=
  if new.mode = .timed ∧ (old.mode ≠ .timed ∨ old.period ≠ new.period) then some (now + ms new.period) else due

/-- R27 step 2, R39: a staged EXPOSURE set becomes active. -/
def State.applyStagedExposure (s : State) : State :=
  match s.cfg.stagedExposure with
  | none => s
  | some new =>
    { s with
      cfg := { s.cfg with exposure := new, stagedExposure := none }
      expo := { s.expo with
                gridBase := gridBaseFor s.cfg.exposure new s.odo.furthest s.expo.gridBase
                periodDue := periodDueFor s.cfg.exposure new s.clock s.expo.periodDue } }

/-- R1, R30: how long an ARM frame takes to leave. -/
def armFrameTime : Nat := us 10

/-- R27, steps 3 to 6, with the active set in force: the entry, the charger, the ARM frames and ARMING. -/
def State.beginExposure (n : Word32) (s : State) : State :=
  let e := newEntry s.cfg.exposure s.cfg.odometry.reversed ⟨s.heads.a.live, s.heads.b.live⟩ n
  let leaving := some { tag := tagOf n, due := s.clock + armFrameTime }
  { s with
    table := s.table ++ [e]
    heads := ⟨{ s.heads.a with arm := leaving }, { s.heads.b with arm := leaving }⟩
    expo := { s.expo with state := .arming, counter := n, guardDue := none, chgEn := !s.cfg.exposure.quiet } }

/-- R27: a trigger is taken. -/
def State.takeTrigger (s : State) : State :=
  (s.applyStagedExposure.beginExposure (s.expo.counter + 1)).touchLiveExpo

/-- R27, R28: a trigger is taken or skipped. -/
def State.trigger (s : State) : State :=
  match s.triggerSkip with
  | some r => s.skip r
  | none => s.takeTrigger

/-- R21: a source of a mode produces triggers. -/
def State.produces (m : TrigMode) (s : State) : Bool := s.run.state.acting && decide (s.cfg.exposure.mode = m)

/-! ### The distance grid (R22, R23) -/

/-- R23: how many grid points, counted from the next one, lie at or below a position. -/
def gridPoints (base : Int) (pitch : Nat) (pos : Int) : Nat :=
  if base + (pitch : Int) ≤ pos then ((pos - base) / (pitch : Int)).toNat else 0

/-- R22, R23: the grid at a change of position from `old`; the points passed over are skipped before the trigger arrives
(log entry 11). -/
def State.advanceGrid (old : Int) (s : State) : State :=
  if s.produces .distance && decide (old < s.pos) then
    match gridPoints s.expo.gridBase s.cfg.exposure.pitch s.pos with
    | 0 => s
    | k + 1 =>
      let moved : State :=
        { s with expo := { s.expo with gridBase := s.expo.gridBase + ((k + 1) * s.cfg.exposure.pitch : Nat) } }
      (moved.skipTimes .gridPassed k).trigger
  else s

/-! ### EXPOSE_ONCE (R26) -/

/-- R26: the code of the outcome TAKEN, SKIPPED_BUSY, SKIPPED_RESERVOIR or SKIPPED_FULL. A passed-over grid point answers
no request. -/
def exposeOutcome : Option SkipReason → Nat
  | none => 0
  | some .busy => 1
  | some .armLeaving => 1
  | some .gridPassed => 1
  | some .reservoir => 2
  | some .full => 3

/-- R26: the result fields of EXPOSE_ONCE, before the trigger is taken or skipped. -/
def exposeFields (s : State) : List Byte :=
  u8 (exposeOutcome s.triggerSkip) ++ [maskByte [s.triggerSkip.isNone]]
    ++ w32 (if s.triggerSkip.isNone then s.expo.counter + 1 else 0)

/-- EXPOSE_ONCE (R26). -/
def execExposeOnce (payload : List Byte) (rsvRdy : Bool) (s : State) : Host.Outcome State Fault Refusal :=
  finish ((s.seeRsv rsvRdy).request 0x07 (decide (payload.length = 0)) fun t =>
    if t.produces .single then t.trigger.accept 0x07 (exposeFields t) else t.refuse 0x07 .wrongState)

/-! ### TRIG_IN (R24) and the period timer (R25) -/

/-- R24, R50: a filter whose input has changed to a level; `hold` is how long it must hold. -/
def Filter.change (now hold : Nat) (level : Bool) (f : Filter) : Filter :=
  { f with due := if f.accepted = some level then none else some (now + hold) }

/-- TRIG_IN_CHANGE (R24). -/
def execTrigInChange (s : State) : Host.Outcome State Fault Refusal :=
  let level := !s.pins.trigIn
  finish
    { s with
      pins := { s.pins with trigIn := level }
      expo := { s.expo with trigFilter := s.expo.trigFilter.change s.clock (us 2) level } }

/-- R24: the filter accepts the level found; true when that is a falling edge. -/
def Filter.falls (level : Bool) (f : Filter) : Bool := decide (f.accepted = some true) && !level

/-- TRIG_IN_FILTER_EXPIRY (R24). -/
def execTrigInFilterExpiry (rsvRdy : Bool) (s : State) : Host.Outcome State Fault Refusal :=
  let t := s.seeRsv rsvRdy
  match t.expo.trigFilter.due with
  | none => finish t
  | some due =>
    let u : State :=
      { t.advanceTo due with
        expo := { t.expo with trigFilter := { accepted := some t.pins.trigIn, due := none } } }
    finish (if t.expo.trigFilter.falls t.pins.trigIn && u.produces .external then u.trigger else u)

/-- PERIOD_TIMER_EXPIRY (R25). -/
def execPeriodTimerExpiry (rsvRdy : Bool) (s : State) : Host.Outcome State Fault Refusal :=
  let t := s.seeRsv rsvRdy
  match t.expo.periodDue with
  | none => finish t
  | some due =>
    let u := t.advanceTo due
    let v : State := { u with expo := { u.expo with periodDue := some (u.clock + ms u.cfg.exposure.period) } }
    finish (if v.produces .timed then v.trigger else v)

/-! ### The window (R30, R31) -/

/-- A time in steps of 0.5 µs on the clock. -/
def halfUs (n : Nat) : Nat := 2 * n

/-- R8: the stamp of an entry at window start. -/
def Entry.stamp (pos : Int) (j : Judged) (strain : Int) (held invalid : Bool) (e : Entry) : Entry :=
  { e with
    phase := .waiting, position := pos, snapshot := j.snapshot, strain := strain
    flags := { e.flags with
               attStale := e.flags.attStale || decide (j.ageCase = .stale)
               attNone := e.flags.attNone || decide (j.ageCase = .none)
               tempHeld := e.flags.tempHeld || held, uncalibrated := e.flags.uncalibrated || invalid } }

/-- R64: ATT_STALE at a window start that is not fresh. -/
def State.raiseStale (j : Judged) (s : State) : State :=
  match j.ageCase with
  | .fresh => s
  | .stale => s.raise .attStale { qualifier := 0, number := j.ageMs }
  | .none => s.raise .attStale { qualifier := 0, number := j.ageMs }

/-- R30, R31: what the Exposure Controller does at window start. -/
def Expo.openWindow (now : Nat) (set : ExposureSet) (e : Expo) : Expo :=
  { e with
    state := .window, expSync := true, lasDrv := true
    burst := some { left := set.pulses, on := true, due := now + halfUs set.onTime }
    ack := some { exposure := e.counter, pulses := set.pulses, count := 0, due := none }
    stuckDue := some (now + us set.stuckWindow) }

/-- R8, R30: the window starts. -/
def State.openWindow (s : State) : State :=
  let j := s.judged
  State.raiseStale j
    { s with
      table := changeEntry s.expo.counter (Entry.stamp s.pos j s.strain s.att.held (!s.cal.valid)) s.table
      expo := s.expo.openWindow s.clock s.cfg.exposure }

/-- A blank-out on the clock. -/
def blankOutTime (set : ExposureSet) : Nat := us (10 * set.blankOut)

/-- R31, R32, R35: what the Exposure Controller does at window end; a blank-out of 0 µs has elapsed at once. -/
def Expo.closeWindow (now : Nat) (set : ExposureSet) (e : Expo) : Expo :=
  { e with
    state := if set.blankOut = 0 then .ready else .blank
    blankDue := if set.blankOut = 0 then none else some (now + blankOutTime set)
    expSync := false, lasDrv := false, burst := none, stuckDue := none
    ack := e.ack.map fun a => { a with due := some (now + us 5) } }

/-- R8, R31: the window ends, normally or forced. -/
def State.closeWindow (s : State) : State :=
  State.startGuard
    { s with
      table := changeEntry s.expo.counter (fun e => { e with windowEnd := some s.clock }) s.table
      expo := s.expo.closeWindow s.clock s.cfg.exposure }

/-- R31: a pulse's on-time ends and its off-time begins. -/
def State.pulseOff (b : Burst) (s : State) : State :=
  { s with
    expo := { s.expo with
              lasDrv := false
              burst := some { b with on := false, due := s.clock + halfUs s.cfg.exposure.offTime } } }

/-- R31: the next pulse begins. -/
def State.pulseOn (b : Burst) (s : State) : State :=
  { s with
    expo := { s.expo with
              lasDrv := true
              burst := some { left := b.left - 1, on := true, due := s.clock + halfUs s.cfg.exposure.onTime } } }

/-- BURST_PULSE_TIMER (R31). -/
def execBurstPulseTimer (s : State) : Host.Outcome State Fault Refusal :=
  match s.expo.burst with
  | none => finish s
  | some b =>
    let t := s.advanceTo b.due
    finish (if b.on then t.pulseOff b else if b.left ≤ 1 then t.closeWindow else t.pulseOn b)

/-! ### The fire-acknowledge checks (R32 to R34) -/

/-- LAS_ACK_CHANGE (R32, R33). -/
def execLasAckChange (s : State) : Host.Outcome State Fault Refusal :=
  let level := !s.pins.lasAck
  finish
    { s with
      pins := { s.pins with lasAck := level }
      expo := { s.expo with
                ack := if level then s.expo.ack.map fun a => { a with count := a.count + 1 } else s.expo.ack
                stuckDue := s.expo.stuckDue.map fun _ => s.clock + us s.cfg.exposure.stuckWindow } }

/-- R33, R34: the exposure carries ILLUM_STUCK, and DRIVE_STUCK is raised. -/
def State.markStuck (s : State) : State :=
  State.raise .driveStuck { qualifier := 0, number := s.expo.counter.toNat }
    { s with
      table := changeEntry s.expo.counter (fun e => { e with flags := { e.flags with illumStuck := true } }) s.table }

/-- STUCK_TIMER_EXPIRY (R33). -/
def execStuckTimerExpiry (s : State) : Host.Outcome State Fault Refusal :=
  match s.expo.stuckDue with
  | none => finish s
  | some due => finish (s.advanceTo due).closeWindow.markStuck

/-- R32, R34: the exposure carries ILLUM_SHORT, and PULSE_COUNT is raised. -/
def State.markShort (a : AckCount) (s : State) : State :=
  State.raise .pulseCount { qualifier := 0, number := a.count }
    { s with
      table := changeEntry a.exposure (fun e => { e with flags := { e.flags with illumShort := true } }) s.table }

/-- R32: the acknowledge count is decided. -/
def State.decideAck (a : AckCount) (s : State) : State :=
  let t : State := { s with expo := { s.expo with ack := none } }
  if a.count = a.pulses then t else t.markShort a

/-- ACK_COUNT_DECISION (R32). Before its window has ended a count has no decision due, and nothing happens (log entry 3). -/
def execAckCountDecision (s : State) : Host.Outcome State Fault Refusal :=
  match s.expo.ack with
  | none => finish s
  | some a =>
    match a.due with
    | none => finish s
    | some due => finish ((s.advanceTo due).decideAck a)

/-! ### Blank-out and charging (R35, R36) -/

/-- BLANK_OUT_END (R35, R140). -/
def execBlankOutEnd (s : State) : Host.Outcome State Fault Refusal :=
  match s.expo.blankDue with
  | none => finish s
  | some due =>
    let t := s.advanceTo due
    finish (State.releaseStop { t with expo := { t.expo with state := .ready, blankDue := none } })

/-- CHARGE_GUARD_EXPIRY (R36). -/
def execChargeGuardExpiry (s : State) : Host.Outcome State Fault Refusal :=
  match s.expo.guardDue with
  | none => finish s
  | some due =>
    let t := s.advanceTo due
    finish { t with expo := { t.expo with guardDue := none, chgEn := true } }

end Sys2Proof.Machine
end

