-- ==== Sys2Proof/Machine/Delivery.lean ====
section
/-! DEFINITION. Delivery in exposure order, head frames and head timeouts (R1 to R19). -/

namespace Sys2Proof.Machine

/-! ### Delivery (R13, R14, R18, R90) -/

/-- R18, R155: live slot 3 at a delivery. -/
def State.touchLiveScan (scan : Scan) (s : State) : State :=
  { s with
    live := { s.live with
              expo := { counter := s.expo.counter, skipped := s.expo.skipped, flags := scan.flags,
                        exposure := scan.exposure, rsvRdy := s.pins.rsvRdy, fresh := true } } }

/-- R17: RETURNS_TRUNCATED when the cut removed returns. -/
def State.raiseTruncated (removed : Nat) (s : State) : State :=
  if removed = 0 then s else s.raise .returnsTruncated { qualifier := 0, number := removed }

/-- R90, R110: the tracker processes a scan in ARMED and MEASURING and the Span Builder takes its outcome; otherwise the
scan is discarded. -/
def State.processScan (scan : Scan) (s : State) : State :=
  if s.run.state.acting then
    let t := s.track scan
    t.1.takeOutcome t.2
  else s

/-- R13, R14, R18: one entry is delivered as a scan. -/
def State.deliverScan (e : Entry) (s : State) : State :=
  let scan := scanOf s.cal.work s.cfg e
  ((s.raiseTruncated scan.removed).touchLiveScan scan).processScan scan

/-- R13: entries are delivered while the oldest is COMPLETE or TIMED_OUT, at most `fuel` of them. -/
def State.deliverLoop : Nat → State → State
  | 0, s => s
  | n + 1, s =>
    match s.table with
    | e :: rest => if e.due then State.deliverLoop n (State.deliverScan e { s with table := rest }) else s
    | [] => s

/-- R13: every entry whose turn has come is delivered. -/
def State.deliver (s : State) : State := s.deliverLoop s.table.length

/-! ### Head condition (R4, R11, R12) -/

/-- One head link changed. -/
def State.changeHead (h : Head) (f : HeadLink → HeadLink) (s : State) : State :=
  { s with heads := s.heads.set h (f (s.heads.get h)) }

/-- R2: a head receiver returns to HUNTING. -/
def HeadLink.hunt (l : HeadLink) : HeadLink := { l with receiver := .hunting }

/-- R4: a valid frame revives its head. -/
def HeadLink.revive (l : HeadLink) : HeadLink := { l with live := true, silence := 0 }

/-- R4, R12: the silence count at which a head becomes LOST. -/
def silenceLimit : Nat := 16

/-- R11, R12: one more silence. -/
def HeadLink.countSilence (l : HeadLink) : HeadLink :=
  let n := satAdd silenceLimit l.silence 1
  { l with silence := n, live := l.live && decide (n < silenceLimit) }

/-- R11, R12: an expected head has not delivered. -/
def State.headSilent (h : Head) (s : State) : State :=
  let t := State.raise .headSilent { qualifier := headCode h, number := 0 } (s.changeHead h HeadLink.countSilence)
  if (s.heads.get h).live && !(t.heads.get h).live then
    t.raise .headLost { qualifier := headCode h, number := 0 }
  else t

/-- R11: the silence of one head counted when the entry expected it and did not receive its frame. -/
def State.countIfMissing (e : Entry) (h : Head) (s : State) : State :=
  if e.expected.get h && !(e.delivered.get h) then s.headSilent h else s

/-- R190: the head that completed the pair, or BOTH as 2. -/
def lostCode (a b : Bool) : Nat :=
  match a, b with
  | true, true => 2
  | false, true => headCode .b
  | _, false => headCode .a

/-- R12: HEADS_LOST when a head became LOST here and both are LOST. -/
def State.raiseHeadsLost (before : Pair HeadLink) (s : State) : State :=
  let a := before.a.live && !s.heads.a.live
  let b := before.b.live && !s.heads.b.live
  if (a || b) && !s.heads.a.live && !s.heads.b.live then
    s.raiseHalting .headsLost { qualifier := lostCode a b, number := 0 }
  else s

/-- R11 to R13: the timeout of an entry. -/
def State.expireEntry (e : Entry) (s : State) : State :=
  let t : State := { s with table := changeEntry e.exposure Entry.timeOut s.table }
  (State.raiseHeadsLost s.heads ((t.countIfMissing e .a).countIfMissing e .b)).deliver

/-- HEAD_TIMEOUT (R11) of the entry that carries a tag. An entry that is not WAITING, or whose window has not ended, has
no timeout running, and nothing happens (log entry 3). -/
def execHeadTimeout (tag : Byte) (rsvRdy : Bool) (s : State) : Host.Outcome State Fault Refusal :=
  let t := s.seeRsv rsvRdy
  match entryWithTag tag t.table with
  | none => finish t
  | some e =>
    match e.phase, e.timeoutDue with
    | .waiting, some due => finish ((t.advanceTo due).expireEntry e)
    | _, _ => finish t

/-! ### Frames from a head (R2, R3, R5, R9, R10) -/

/-- R190: the value of HEAD_FRAME, the head in the low and the reason in the high four bits (R201). -/
def headFrameValue (h : Head) (r : HeadReason) : FaultValue := { qualifier := headCode h + 16 * r.code, number := 0 }

/-- R2, R3: a head frame is not used. -/
def State.badHeadFrame (h : Head) (r : HeadReason) (s : State) : State :=
  State.raise .headFrame (headFrameValue h r) (s.changeHead h HeadLink.hunt)

/-- R5, R9, R10: the entry takes a frame's returns that pass the field check. -/
def State.fillEntry (h : Head) (f : ReturnsFrame) (e : Entry) (s : State) : State :=
  { s with table := changeEntry e.exposure (Entry.fill h (f.returns.filter (insideField s.cal.work h))) s.table }

/-- R4, R9: a valid RETURNS frame revives its head and is used or is late. -/
def State.takeReturns (h : Head) (f : ReturnsFrame) (s : State) : State :=
  let t := s.changeHead h fun l => l.hunt.revive
  match entryWithTag f.tag t.table with
  | some e =>
    if e.uses h then (t.fillEntry h f e).deliver
    else t.raise .headLate { qualifier := headCode h, number := f.tag.toNat }
  | none => t.raise .headLate { qualifier := headCode h, number := f.tag.toNat }

/-- RETURNS_FRAME_RECEIVED (R9). A payload that fails a check of R3 is no valid frame and is treated as R3 lays down. -/
def execReturnsFrameReceived (h : Head) (payload : List Byte) (rsvRdy : Bool) (s : State) :
    Host.Outcome State Fault Refusal :=
  let t := s.seeRsv rsvRdy
  match checkReturns payload with
  | .valid f => finish (t.takeReturns h f)
  | .failed r => finish (t.badHeadFrame h r)

/-- R2: an abandoned frame; a receiver that is HUNTING has none to abandon (log entry 9). -/
def State.abandonHeadFrame (h : Head) (r : HeadReason) (s : State) : State :=
  if (s.heads.get h).receiver = .inFrame then s.badHeadFrame h r else s

/-- HEAD_FRAME_ERROR (R2, R3). A whole frame that passes every check is no error (log entry 9). -/
def execHeadFrameError (h : Head) (what : HeadFrameFault) (s : State) : Host.Outcome State Fault Refusal :=
  match what with
  | .length => finish (s.abandonHeadFrame h .length)
  | .byteError => finish (s.abandonHeadFrame h .byteError)
  | .whole kind payload crc =>
    match checkHeadFrame kind payload crc with
    | .failed r => finish (s.badHeadFrame h r)
    | .valid _ => finish (s.changeHead h HeadLink.hunt)

/-- HEAD_BYTE_GAP_TIMEOUT (R2). -/
def execHeadByteGapTimeout (h : Head) (s : State) : Host.Outcome State Fault Refusal := finish (s.abandonHeadFrame h .gap)

/-- HEAD_RX_PREAMBLE (R2). -/
def execHeadRxPreamble (h : Head) (s : State) : Host.Outcome State Fault Refusal :=
  finish (s.changeHead h fun l => { l with receiver := .inFrame })

end Sys2Proof.Machine
end

