-- ==== Sys2Proof/Machine/Markers.lean ====
section
/-! DEFINITION. Marker Logic: filters, channels, the mast source, the overlap zone, site marks and operator marks (R50 to
R57). -/

namespace Sys2Proof.Machine

/-! ### The mast source (R53 to R55) -/

/-- PENDING or QUALIFIED: the channel counts as asserted (R53, R54). -/
def ChannelState.active : ChannelState → Bool
  | .idle => false
  | .pending => true
  | .qualified => true
  | .held => false

/-- MK1 is PENDING or QUALIFIED. -/
def Markers.mk1Active (m : Markers) : Bool := m.channels.e0.state.active

/-- MK2 is PENDING or QUALIFIED. -/
def Markers.mk2Active (m : Markers) : Bool := m.channels.e1.state.active

/-- The source that one mast channel gives. -/
def sourceOfMarker : Marker → Source
  | .n0 => .mk1
  | .n1 => .mk2
  | .n2 => .none
  | .n3 => .none

/-- R53: the mast source setting uses a channel. -/
def MastSetting.uses (set : MastSetting) (m : Marker) : Bool :=
  match m with
  | .n0 => decide (set ≠ .mk2)
  | .n1 => decide (set ≠ .mk1)
  | .n2 => false
  | .n3 => false

/-- A report of the mast source (R55). -/
inductive MastReport where
  | asserted (position : Int) (source : Source)
  | qualified (source : Source)
  | failed
  deriving DecidableEq, Repr

/-- The mast source after a channel event with its report, if any. -/
structure MastStep where
  mast : Mast
  report : Option MastReport
  deriving DecidableEq, Repr

/-- Nothing changes. -/
def Mast.stay (m : Mast) : MastStep := { mast := m, report := none }

/-- R53, R54: from IDLE, a candidate starts at a position. -/
def Mast.startAt (pos : Int) (src : Source) (m : Mast) : MastStep :=
  if m.state = .idle then
    { mast := { state := .pending, candidate := pos, source := src }, report := some (.asserted pos src) }
  else m.stay

/-- R53, R54: from PENDING, the candidate qualifies with a source. -/
def Mast.qualifyAs (src : Source) (m : Mast) : MastStep :=
  if m.state = .pending then { mast := { m with state := .qualified, source := src }, report := some (.qualified src) }
  else m.stay

/-- R53, R54: the signal goes to IDLE, from PENDING with a failure and from QUALIFIED without a report. -/
def Mast.drop (m : Mast) : MastStep :=
  match m.state with
  | .idle => m.stay
  | .pending => { mast := .idle, report := some .failed }
  | .qualified => { mast := .idle, report := none }

/-- R53, R54: a member channel has asserted at a position. `ms` holds the channels as the assertion left them. -/
def Markers.mastAsserts (set : MastSetting) (m : Marker) (pos : Int) (ms : Markers) : MastStep :=
  match set with
  | .mk1 => ms.mast.startAt pos (sourceOfMarker m)
  | .mk2 => ms.mast.startAt pos (sourceOfMarker m)
  | .either => ms.mast.startAt pos (sourceOfMarker m)
  | .both => if ms.mk1Active && ms.mk2Active then ms.mast.startAt pos .both else ms.mast.stay

/-- R53, R54: a member channel has qualified. -/
def Markers.mastQualifies (set : MastSetting) (m : Marker) (ms : Markers) : MastStep :=
  match set with
  | .mk1 => ms.mast.qualifyAs (sourceOfMarker m)
  | .mk2 => ms.mast.qualifyAs (sourceOfMarker m)
  | .either => ms.mast.qualifyAs (if ms.mk1Active && ms.mk2Active then .both else sourceOfMarker m)
  | .both =>
    if ms.channels.e0.state = .qualified ∧ ms.channels.e1.state = .qualified then ms.mast.qualifyAs .both
    else ms.mast.stay

/-- R53, R54: a member channel has failed or been released. DEDUCED (log entry 30): a release that meets the signal PENDING
under MK1, MK2 or MK1_OR_MK2, which no run reaches, drops it with a failure. -/
def Markers.mastDrops (set : MastSetting) (ms : Markers) : MastStep :=
  match set with
  | .mk1 => ms.mast.drop
  | .mk2 => ms.mast.drop
  | .either => if ms.mk1Active || ms.mk2Active then ms.mast.stay else ms.mast.drop
  | .both => ms.mast.drop

/-- R55: the Span Builder takes a report of the mast source. -/
def State.takeMastReport (r : Option MastReport) (s : State) : State :=
  match r with
  | none => s
  | some (.asserted pos src) => s.candidateAsserted pos src
  | some (.qualified src) => s.candidateQualified src
  | some .failed => if s.run.state.acting then s.candidateFailed else s

/-- The mast source moves, and its report is made. -/
def State.moveMast (step : MastStep) (s : State) : State :=
  State.takeMastReport step.report { s with mark := { s.mark with mast := step.mast } }

/-! ### The users of a channel (R53, R54, R56, R57) -/

/-- R56: the overlap zone changes, with its event; a change that would leave it as it is makes none. -/
def State.setZone (zone : Bool) (s : State) : State :=
  if s.mark.zone = zone then s
  else State.emit (if zone then .overlapBegin else .overlapEnd) { s with mark := { s.mark with zone := zone } }

/-- R56: MK3 has qualified. -/
def State.zoneQualified (s : State) : State :=
  match s.cfg.markers.overlap with
  | .off => s
  | .level => s.setZone true
  | .toggle => s.setZone (!s.mark.zone)

/-- R56: MK3 has been released. -/
def State.zoneReleased (s : State) : State :=
  match s.cfg.markers.overlap with
  | .off => s
  | .level => s.setZone false
  | .toggle => s

/-- R57: MK4 has qualified. -/
def State.siteQualified (s : State) : State :=
  if s.cfg.markers.siteMarks then s.emit (.siteMark s.mark.channels.e3.assertedAt) else s

/-- R51: the assertion of a channel is seen by the mast source. -/
def State.handAssertion (m : Marker) (s : State) : State :=
  if s.cfg.markers.mast.uses m then
    s.moveMast (s.mark.mastAsserts s.cfg.markers.mast m (s.mark.channels.get m).assertedAt)
  else s

/-- R51: a qualification is handed to the channel's user. -/
def State.handQualification (m : Marker) (s : State) : State :=
  match m with
  | .n0 => if s.cfg.markers.mast.uses m then s.moveMast (s.mark.mastQualifies s.cfg.markers.mast m) else s
  | .n1 => if s.cfg.markers.mast.uses m then s.moveMast (s.mark.mastQualifies s.cfg.markers.mast m) else s
  | .n2 => s.zoneQualified
  | .n3 => s.siteQualified

/-- R51: a failure is handed to the channel's user; MK3 and MK4 do nothing with it. -/
def State.handFailure (m : Marker) (s : State) : State :=
  if s.cfg.markers.mast.uses m then s.moveMast (s.mark.mastDrops s.cfg.markers.mast) else s

/-- R51: a release is handed to the channel's user; MK4 does nothing with it. -/
def State.handRelease (m : Marker) (s : State) : State :=
  match m with
  | .n0 => s.handFailure .n0
  | .n1 => s.handFailure .n1
  | .n2 => s.zoneReleased
  | .n3 => s

/-! ### Channels (R51, R52) -/

/-- One channel changed. -/
def State.changeChannel (m : Marker) (f : Channel → Channel) (s : State) : State :=
  { s with mark := { s.mark with channels := s.mark.channels.set m (f (s.mark.channels.get m)) } }

/-- R51: a channel qualifies. -/
def State.qualifyChannel (m : Marker) (s : State) : State :=
  (s.changeChannel m fun c => { c with state := .qualified }).handQualification m

/-- R51: an assertion of an IDLE channel; with a qualify distance of 0 it qualifies at once. -/
def State.assertChannel (m : Marker) (s : State) : State :=
  if (s.mark.channels.get m).state = .idle then
    let q := s.cfg.markers.qualify.get m
    let t := (s.changeChannel m fun c => { c with state := .pending, assertedAt := s.pos, target := s.pos + (q : Int) })
    let u := t.handAssertion m
    if q = 0 then u.qualifyChannel m else u
  else s

/-- R51: a drop. -/
def State.dropChannel (m : Marker) (s : State) : State :=
  let t := s.changeChannel m Channel.toIdle
  match (s.mark.channels.get m).state with
  | .idle => s
  | .pending => t.handFailure m
  | .qualified => t.handRelease m
  | .held => t

/-- R51, R52: the accepted level of a channel has changed; in STOPPED the channels take nothing. -/
def State.markerLevel (m : Marker) (level : Bool) (s : State) : State :=
  if s.run.state = .stopped then s
  else if level then s.assertChannel m else s.dropChannel m

/-- R51: a PENDING channel qualifies when the position has reached its target. -/
def State.checkChannel (s : State) (m : Marker) : State :=
  let c := s.mark.channels.get m
  if c.state = .pending ∧ c.target ≤ s.pos then s.qualifyChannel m else s

/-- R43, R51: the channels at a change of position. -/
def State.checkChannels (s : State) : State :=
  if s.run.state = .stopped then s else Ix.all.foldl State.checkChannel s

/-! ### The input filters (R50) -/

/-- R50: the debounce time. -/
def debounceTime : Nat := us 30

/-- A marker input's new level. -/
def State.toggleMarker (m : Marker) (s : State) : State :=
  { s with pins := { s.pins with markers := s.pins.markers.set m (!(s.pins.markers.get m)) } }

/-- R50: the filter of a channel replaced. -/
def State.setFilter (m : Marker) (f : Filter) (s : State) : State := s.changeChannel m fun c => { c with filter := f }

/-- R50: the filter accepts a level, which is an assertion or a drop when another level was accepted before; settling
after a reset is neither. -/
def State.acceptMarker (m : Marker) (level : Bool) (s : State) : State :=
  let before := (s.mark.channels.get m).filter.accepted
  let t := s.setFilter m { accepted := some level, due := none }
  if before = some (!level) then t.markerLevel m level else t

/-- R50: an input changed; a channel with debounce off accepts it at once unless its filter is still settling. -/
def State.markerChanged (m : Marker) (level : Bool) (s : State) : State :=
  let f := (s.mark.channels.get m).filter
  if f.accepted.isSome && !(s.cfg.markers.debounce.get m) then s.acceptMarker m level
  else s.setFilter m (f.change s.clock debounceTime level)

/-- MARKER_INPUT_CHANGE (R50). -/
def execMarkerInputChange (m : Marker) (s : State) : Host.Outcome State Fault Refusal :=
  let t := s.toggleMarker m
  finish (t.markerChanged m (t.pins.markers.get m))

/-- MARKER_DEBOUNCE_EXPIRY (R50). -/
def execMarkerDebounceExpiry (m : Marker) (s : State) : Host.Outcome State Fault Refusal :=
  match (s.mark.channels.get m).filter.due with
  | none => finish s
  | some due => finish ((s.advanceTo due).acceptMarker m (s.pins.markers.get m))

/-- OPERATOR_MARK (R57). -/
def execOperatorMark (payload : List Byte) (s : State) : Host.Outcome State Fault Refusal :=
  finish (s.request 0x08 (decide (payload.length = 1)) fun t =>
    if t.run.state = .stopped then t.refuse 0x08 .wrongState
    else State.accept 0x08 [] (t.emit (.operatorMark (payload.headD 0))))

end Sys2Proof.Machine
end

