-- ==== Sys2Proof/Machine/Odometry.lean ====
section
/-! DEFINITION. The Odometer Interface: encoder edges, changes of position, phase errors, speed (R41 to R48). -/

namespace Sys2Proof.Machine

/-! ### Counting (R41, R42) -/

/-- R41: a change of one line is an up-step along the cycle 00, 10, 11, 01. -/
def isUpStep (line : EncoderLine) (a b : Bool) : Bool :=
  match line with
  | .encA => a == b
  | .encB => a != b

/-- R41: a step counts forward under a sense and an orientation. -/
def countsForward (up inverted reversed : Bool) : Bool := up ^^ inverted ^^ reversed

/-- R42: the accumulator holds the end value of the signed 64-bit range. -/
def clampAccumulator (v : Int) : Int := clamp (-9223372036854775808) 9223372036854775807 v

/-- R41, R42: the accumulator after a step. -/
def stepAccumulator (o : OdometrySet) (up : Bool) (acc : Int) : Int :=
  clampAccumulator (if countsForward up o.inverted o.reversed then acc + o.nmPerCount else acc - o.nmPerCount)

/-! ### Furthest position, reverse and resumption (R46, R47) -/

/-- R46: the furthest position after a change of position. -/
def Odo.reach (pos : Int) (o : Odo) : Odo := { o with furthest := if o.furthest < pos then pos else o.furthest }

/-- R46, R47: the Odometer Interface's own checks at a change of position, made outside STOPPED. -/
def State.checkTravel (s : State) : State :=
  if s.run.state = .stopped then s
  else
    let t : State := { s with odo := s.odo.reach s.pos }
    if t.odo.backTravel then
      if t.odo.furthest ≤ t.pos then State.resumeRun { t with odo := { t.odo with backTravel := false } } else t
    else if t.pos < t.odo.furthest - (t.cfg.odometry.reverseDistance : Int) then
      State.pauseRun t.odo.furthest { t with odo := { t.odo with backTravel := true } }
    else t

/-- R43: a change of position from `old` is handed to the odometer's checks, the grid, the markers and the span maximum,
in the order of the rule's table (log entry 10). -/
def State.positionChanged (old : Int) (s : State) : State :=
  ((s.checkTravel.advanceGrid old).checkChannels).checkSpanMaximum

/-- R41: the line that changed takes its new level. -/
def State.toggleEncoder (line : EncoderLine) (s : State) : State :=
  match line with
  | .encA => { s with pins := { s.pins with encA := !s.pins.encA } }
  | .encB => { s with pins := { s.pins with encB := !s.pins.encB } }

/-- R41 to R43: a valid edge. -/
def State.encoderEdge (line : EncoderLine) (s : State) : State :=
  let up := isUpStep line s.pins.encA s.pins.encB
  let t : State :=
    { s.toggleEncoder line with odo := { s.odo with acc := stepAccumulator s.cfg.odometry up s.odo.acc } }
  if t.pos = s.pos then t else t.positionChanged s.pos

/-- ENCODER_VALID_EDGE (R41). -/
def execEncoderValidEdge (line : EncoderLine) (rsvRdy : Bool) (s : State) : Host.Outcome State Fault Refusal :=
  finish ((s.seeRsv rsvRdy).encoderEdge line)

/-! ### Phase errors (R44) -/

/-- R44: the level at which the odometer is lost. -/
def phaseLimit : Nat := 16

/-- R44: a phase error. -/
def State.phaseError (s : State) : State :=
  let level := satAdd phaseLimit s.odo.phaseLevel 1
  let t := State.raise .odoPhase { qualifier := 0, number := level }
    { s with
      pins := { s.pins with encA := !s.pins.encA, encB := !s.pins.encB }, odo := { s.odo with phaseLevel := level } }
  if s.odo.phaseLevel + 1 = phaseLimit then t.raiseHalting .odoLost { qualifier := 0, number := phaseLimit } else t

/-- ENCODER_PHASE_ERROR (R44). -/
def execEncoderPhaseError (s : State) : Host.Outcome State Fault Refusal := finish s.phaseError

/-- PHASE_DECAY_TIMER (R44). -/
def execPhaseDecayTimer (s : State) : Host.Outcome State Fault Refusal :=
  let t := s.advanceTo s.odo.decayDue
  finish { t with odo := { t.odo with phaseLevel := t.odo.phaseLevel - 1, decayDue := t.clock + ms 100 } }

/-! ### Speed (R45) -/

/-- R45: the speed in mm/s. -/
def speedOf (now tenAgo : Int) : Int := clamp (-100000) 100000 (roundDiv (now - tenAgo) 100000)

/-- R45: the direction of a speed. -/
def directionOf (speed : Int) : Direction :=
  if 0 < speed then .forward else if speed < 0 then .backward else .standstill

/-- R45: the Odometer Interface at a gate. -/
def Odo.gate (now : Nat) (o : Odo) : Odo :=
  let v := speedOf o.acc (o.history.headD 0)
  { o with history := o.history.drop 1 ++ [o.acc], speed := v, direction := directionOf v, gateDue := now + ms 10 }

/-- R45, R155: live slot 0. -/
def State.touchLiveTravel (s : State) : State :=
  { s with
    live := { s.live with
              travel := { position := s.pos, speed := s.odo.speed, direction := s.odo.direction, run := s.run.state,
                          fresh := true } } }

/-- SPEED_GATE (R45). -/
def execSpeedGate (s : State) : Host.Outcome State Fault Refusal :=
  let t := s.advanceTo s.odo.gateDue
  finish (State.touchLiveTravel { t with odo := t.odo.gate t.clock })

end Sys2Proof.Machine
end

