-- ==== Sys2Proof/Machine/Groups.lean ====
section
/-! DEFINITION. SET_GROUP and GET_GROUP for the eight configuration groups (R38, R40, R49, R58, R89, R113, R114, R154, R170,
R171). -/

namespace Sys2Proof.Machine

/-! ### SET_GROUP (R170) -/

/-- R38: an EXPOSURE set becomes active, and a staged one is discarded. -/
def setExposure (e : ExposureSet) (g : Groups) : Groups := { g with exposure := e, stagedExposure := none }

/-- R38: an EXPOSURE set is staged. -/
def stageExposure (e : ExposureSet) (g : Groups) : Groups := { g with stagedExposure := some e }

/-- R113: a LINE set becomes active, and a staged one is discarded. -/
def setLine (l : LineSet) (g : Groups) : Groups := { g with line := l, stagedLine := none }

/-- R113: a LINE set is staged. -/
def stageLine (l : LineSet) (g : Groups) : Groups := { g with stagedLine := some l }

/-- SET_GROUP_EXPOSURE (R38). -/
def execSetGroupExposure (set : List Byte) (s : State) : Host.Outcome State Fault Refusal :=
  finish (s.request 0x03 (decide (set.length = 17)) fun t => t.setOrStage (checkExposure set) setExposure stageExposure)

/-- SET_GROUP_ODOMETRY (R40). -/
def execSetGroupOdometry (set : List Byte) (s : State) : Host.Outcome State Fault Refusal :=
  finish (s.request 0x03 (decide (set.length = 8)) fun t =>
    t.setInStopped (checkOdometry set) fun v g => { g with odometry := v })

/-- SET_GROUP_ATTITUDE (R58). -/
def execSetGroupAttitude (set : List Byte) (s : State) : Host.Outcome State Fault Refusal :=
  finish (s.request 0x03 (decide (set.length = 3)) fun t =>
    t.setInStopped (checkAttitude set) fun v g => { g with attitude := v })

/-- SET_GROUP_MARKERS (R49). -/
def execSetGroupMarkers (set : List Byte) (s : State) : Host.Outcome State Fault Refusal :=
  finish (s.request 0x03 (decide (set.length = 15)) fun t =>
    t.setInStopped (checkMarkers set) fun v g => { g with markers := v })

/-- SET_GROUP_TRACKING (R89). -/
def execSetGroupTracking (set : List Byte) (s : State) : Host.Outcome State Fault Refusal :=
  finish (s.request 0x03 (decide (set.length = 19)) fun t =>
    t.setInStopped (checkTracking set) fun v g => { g with tracking := v })

/-- SET_GROUP_LINE (R113). -/
def execSetGroupLine (set : List Byte) (s : State) : Host.Outcome State Fault Refusal :=
  finish (s.request 0x03 (decide (set.length = 14)) fun t => t.setOrStage (checkLine set) setLine stageLine)

/-- SET_GROUP_WIRE_TYPES (R114). -/
def execSetGroupWireTypes (set : List Byte) (s : State) : Host.Outcome State Fault Refusal :=
  finish (s.request 0x03 (decide (set.length = 24)) fun t =>
    t.setInStopped (checkWireTypes set) fun v g => { g with wireTypes := v })

/-- R154: a REPORTING set is taken in every run state and never staged. -/
def State.setReporting (set : Checked ReportingSet) (s : State) : State :=
  match set with
  | .bad i => s.refuseValue 0x03 i
  | .good v => State.accept 0x03 [] { s with cfg := { s.cfg with reporting := v } }

/-- SET_GROUP_REPORTING (R154). -/
def execSetGroupReporting (set : List Byte) (s : State) : Host.Outcome State Fault Refusal :=
  finish (s.request 0x03 (decide (set.length = 3)) fun t => t.setReporting (checkReporting set))

/-! ### GET_GROUP (R171) -/

/-- The bytes of a set (R201). -/
def setBytes (fs : List Field) (vs : List Int) : List Byte := writeFields fs vs

/-- The EXPOSURE set in 17 bytes. -/
def exposureBytes (e : ExposureSet) : List Byte := setBytes exposureFields e.values

/-- The LINE set in 14 bytes. -/
def lineBytes (l : LineSet) : List Byte := setBytes lineFields l.values

/-- R171: the staged indication and the staged set, zeros when none is held (log entry 15). -/
def stagedBytes (staged : Option (List Byte)) (length : Nat) : List Byte :=
  maskByte [staged.isSome] :: staged.getD (List.replicate length 0)

/-- R171: the result fields of GET_GROUP for a group code. -/
def groupBytes (g : Groups) : Nat → List Byte
  | 0 => u8 0 ++ exposureBytes g.exposure ++ stagedBytes (g.stagedExposure.map exposureBytes) 17
  | 1 => u8 1 ++ setBytes odometryFields g.odometry.values
  | 2 => u8 2 ++ setBytes attitudeFields g.attitude.values
  | 3 => u8 3 ++ setBytes markerFields g.markers.values
  | 4 => u8 4 ++ setBytes trackingFields g.tracking.values
  | 5 => u8 5 ++ lineBytes g.line ++ stagedBytes (g.stagedLine.map lineBytes) 14
  | 6 => u8 6 ++ setBytes (wireTypeFields [0, 0, 0, 0]) (wireTypesValues g.wireTypes)
  | _ => u8 7 ++ setBytes reportingFields g.reporting.values

/-- GET_GROUP (R171). -/
def execGetGroup (payload : List Byte) (s : State) : Host.Outcome State Fault Refusal :=
  finish (s.request 0x04 (decide (payload.length = 1)) fun t =>
    match checkFields 0 groupFields (fun _ => none) (fun vs => vs.headD 0) payload with
    | .bad i => t.refuseValue 0x04 i
    | .good code => t.accept 0x04 (groupBytes t.cfg code.toNat))

end Sys2Proof.Machine
end

