-- ==== Sys2Proof/Machine/Output.lean ====
section
/-! DEFINITION. The live table, fetches, attention and the fault requests (R148 to R159, R186 to R188). -/

namespace Sys2Proof.Machine

/-! ### READ_LIVE (R156) -/

/-- The slots of a READ_LIVE reply: from `first`, through the lesser of `first + count - 1` and 7. -/
def liveRange (first count : Nat) : List Nat := (List.range 8).filter fun n => decide (first ≤ n) && decide (n < first + count)

/-- A track's live slot with its fresh flag cleared when its slot was read. -/
def LiveTrack.clearIf (read : Bool) (l : LiveTrack) : LiveTrack := { l with fresh := l.fresh && !read }

/-- R156: the fresh flags of the slots read are cleared. -/
def Live.clearFresh (slots : List Nat) (l : Live) : Live :=
  { travel := { l.travel with fresh := l.travel.fresh && !(slots.contains 0) }
    attitude := { l.attitude with fresh := l.attitude.fresh && !(slots.contains 1) }
    temp := { l.temp with fresh := l.temp.fresh && !(slots.contains 2) }
    expo := { l.expo with fresh := l.expo.fresh && !(slots.contains 3) }
    tracks := ⟨l.tracks.e0.clearIf (slots.contains 4), l.tracks.e1.clearIf (slots.contains 5),
               l.tracks.e2.clearIf (slots.contains 6), l.tracks.e3.clearIf (slots.contains 7)⟩ }

/-- R156, R201: the result fields of READ_LIVE. -/
def readLiveBytes (slots : List Nat) (l : Live) : List Byte :=
  u8 (slots.headD 0) ++ u8 slots.length ++ (slots.map l.slotBytes).flatten

/-- A request's two payload fields. -/
def twoValues : List Int → Int × Int
  | [a, b] => (a, b)
  | _ => (0, 0)

/-- READ_LIVE (R156). -/
def execReadLive (payload : List Byte) (s : State) : Host.Outcome State Fault Refusal :=
  finish (s.request 0x09 (decide (payload.length = 2)) fun t =>
    match checkFields 0 readLiveFields (fun _ => none) twoValues payload with
    | .bad i => t.refuseValue 0x09 i
    | .good (first, count) =>
      let slots := liveRange first.toNat count.toNat
      State.accept 0x09 (readLiveBytes slots t.live) { t with live := t.live.clearFresh slots })

/-! ### FETCH_SPANS and FETCH_EVENTS (R150, R153) -/

/-- R150: the in-flight record, when there is one. -/
def SpanQueue.flying (q : SpanQueue) : List SpanRec := if q.inFlight then q.items.take 1 else []

/-- R150: the records that a fetch may take. -/
def SpanQueue.waiting (q : SpanQueue) : List SpanRec := if q.inFlight then q.items.drop 1 else q.items

/-- R150: room for records in a FETCH_SPANS reply: 1,024 bytes less the status and three count bytes. -/
def spanRoom : Nat := 1020

/-- R153: room for events in a FETCH_EVENTS reply: 1,024 bytes less the status and two count bytes. -/
def eventRoom : Nat := 1021

/-- R150: records leave the queue with the reply that carries them. -/
def State.fetchSpans (max : Nat) (s : State) : State :=
  let q := s.rep.spans
  let split := takeFitting SpanRec.size (min max spanCapacity) spanRoom q.waiting
  let left : SpanQueue := { q with items := q.flying ++ split.2 }
  State.accept 0x0A
    (u8 split.1.length ++ u8 left.available ++ [flagByte q.inFlight] ++ (split.1.map SpanRec.bytes).flatten)
    { s with rep := { s.rep with spans := left } }

/-- FETCH_SPANS (R150). -/
def execFetchSpans (payload : List Byte) (s : State) : Host.Outcome State Fault Refusal :=
  finish (s.request 0x0A (decide (payload.length = 1)) fun t =>
    match checkFields 0 fetchFields (fun _ => none) (fun vs => vs.headD 0) payload with
    | .bad i => t.refuseValue 0x0A i
    | .good max => t.fetchSpans max.toNat)

/-- R153: events leave the queue with the reply that carries them. -/
def State.fetchEvents (max : Nat) (s : State) : State :=
  let q := s.rep.events
  let split := takeFitting Event.size (min max eventCapacity) eventRoom q.items
  State.accept 0x0B (u8 split.1.length ++ u8 split.2.length ++ (split.1.map Event.bytes).flatten)
    { s with rep := { s.rep with events := { q with items := split.2 } } }

/-- FETCH_EVENTS (R153). -/
def execFetchEvents (payload : List Byte) (s : State) : Host.Outcome State Fault Refusal :=
  finish (s.request 0x0B (decide (payload.length = 1)) fun t =>
    match checkFields 0 fetchFields (fun _ => none) (fun vs => vs.headD 0) payload with
    | .bad i => t.refuseValue 0x0B i
    | .good max => t.fetchEvents max.toNat)

/-! ### Attention (R157 to R159) -/

/-- R159: the latched causes that an acknowledgement names are cleared. -/
def Report.acknowledge (named : Causes) (r : Report) : Report :=
  { r with
    lossCause := r.lossCause && !named.queueLoss, faultCause := r.faultCause && !named.fault
    runCause := r.runCause && !named.runState }

/-- R159: the acknowledgement clears at least one cause. -/
def Report.clearsSome (named : Causes) (r : Report) : Bool :=
  (r.lossCause && named.queueLoss) || (r.faultCause && named.fault) || (r.runCause && named.runState)

/-- R159: the attention pulse on the clock. -/
def pulseTime : Nat := us 25

/-- R159: the pulse after an acknowledgement; one in progress is neither restarted nor lengthened. -/
def Report.pulseAfter (now : Nat) (cfg : ReportingSet) (cleared : Bool) (r : Report) : Report :=
  if r.pulseDue.isNone && cleared && (activeCauses cfg.spanMark r).anyEnabled cfg.mask then
    { r with pulseDue := some (now + pulseTime) }
  else r

/-- R159: ACK_ATTENTION names a set of causes. -/
def State.acknowledge (named : Causes) (s : State) : State :=
  let r := s.rep.acknowledge named
  State.accept 0x0C [maskByte (activeCauses s.cfg.reporting.spanMark r).members]
    { s with rep := r.pulseAfter s.clock s.cfg.reporting (s.rep.clearsSome named) }

/-- ACK_ATTENTION (R159). -/
def execAckAttention (payload : List Byte) (s : State) : Host.Outcome State Fault Refusal :=
  finish (s.request 0x0C (decide (payload.length = 1)) fun t =>
    match checkFields 0 ackFields (fun _ => none) (fun vs => vs.headD 0) payload with
    | .bad i => t.refuseValue 0x0C i
    | .good mask => t.acknowledge (Causes.ofMask mask.toNat))

/-- ATTN_PULSE_END (R158, R159). -/
def execAttnPulseEnd (s : State) : Host.Outcome State Fault Refusal :=
  match s.rep.pulseDue with
  | none => finish s
  | some due =>
    let t := s.advanceTo due
    finish { t with rep := { t.rep with pulseDue := none } }

/-! ### The fault requests (R186, R188) -/

/-- READ_FAULTS (R186). -/
def execReadFaults (payload : List Byte) (s : State) : Host.Outcome State Fault Refusal :=
  finish (s.request 0x0D (decide (payload.length = 0)) fun t => t.accept 0x0D (faultBytes t.rep.faults))

/-- R169, R188: the three class totals, notice first. -/
def totalBytes (rs : List FaultRecord) : List Byte :=
  u32 (classTotal .notice rs) ++ u32 (classTotal .degrading rs) ++ u32 (classTotal .halting rs)

/-- R188: every record cleared, its marks kept. -/
def State.clearFaults (s : State) : State :=
  { s with rep := { s.rep with faults := s.rep.faults.map FaultRecord.cleared } }

/-- CLEAR_FAULTS (R188). -/
def execClearFaults (payload : List Byte) (s : State) : Host.Outcome State Fault Refusal :=
  finish (s.request 0x0E (decide (payload.length = 0)) fun t => t.clearFaults.accept 0x0E (totalBytes t.rep.faults))

end Sys2Proof.Machine
end

