-- ==== Sys2Proof/Machine/HostLink.lean ====
section
/-! DEFINITION. The Host Link Controller's own commands: receive errors, ends of transmission, IDENTIFY, STATUS, unknown
requests, and both resets with the ARM frame's end, which a soft reset may wait for (R30, R160 to R169, R172). -/

namespace Sys2Proof.Machine

/-! ### Resets (R160, R167, R172, R177) -/

/-- R160: the bit rate that the straps select. -/
def rateOf (rate1 rate0 : Bool) : Nat :=
  match rate1, rate0 with
  | false, false => 115200
  | false, true => 460800
  | true, false => 921600
  | true, true => 1843200

/-- R177: the block that a power-on reset leaves: as it was, or what an interrupted store left of it. -/
def State.blockAfterPowerLoss (storeWritten : Bool) (s : State) : List Byte :=
  if s.cal.storing then if storeWritten then calImage s.cal.work else tornBlock s.free else s.cal.block

/-- POWER_ON_RESET (R160, R167, R177) with the levels found on the inputs. -/
def execPowerOnReset (pins : PinLevels) (storeWritten : Bool) (s : State) : Host.Outcome State Fault Refusal :=
  finish
    (State.startUp pins (rateOf pins.rate1 pins.rate0) .powerOn (s.blockAfterPowerLoss storeWritten)
      (if s.cal.storing then s.free + 1 else s.free) s.pending)

/-- R172: the soft reset; the bit rate, the block and the levels on the pins stay. -/
def State.softReset (s : State) : State := State.startUp s.pins s.link.rate .soft s.cal.block s.free s.pending

/-- RESET_PART (R172). -/
def execResetPart (payload : List Byte) (s : State) : Host.Outcome State Fault Refusal :=
  finish (s.request 0x13 (decide (payload.length = 0)) fun t =>
    State.accept 0x13 [] { t with link := { t.link with handling := .closing } })

/-- R1, R30: an ARM frame's last byte has left; the second of an exposure opens its window, and a soft reset that waited
for it takes place (log entry 31). -/
def State.armSent (h : Head) (s : State) : State :=
  let t := s.changeHead h fun l => { l with arm := none }
  if t.armLeaving then t
  else if t.link.resetDue then t.softReset
  else if t.expo.state = .arming then t.openWindow
  else t

/-- ARM_FRAME_SENT (R30). With no ARM frame in transmission on that link nothing happens (log entry 3). -/
def execArmFrameSent (h : Head) (s : State) : Host.Outcome State Fault Refusal :=
  match (s.heads.get h).arm with
  | none => finish s
  | some f => finish ((s.advanceTo f.due).armSent h)

/-! ### Ends of transmission (R149, R166, R172) -/

/-- R149: the in-flight record leaves the queue with its report's last byte. -/
def SpanQueue.landed (q : SpanQueue) : SpanQueue :=
  if q.inFlight then { q with items := q.items.drop 1, inFlight := false } else q

/-- R166: the frame in transmission has ended. -/
def State.endFrame (f : Frame) (s : State) : State :=
  let idle : State := { s with link := { s.link with tx := none } }
  if f.kind = 0x62 then { idle with rep := { idle.rep with spans := idle.rep.spans.landed } } else idle

/-- R172: in CLOSING, the reply to RESET_PART has left once the slot is empty and its frame has ended; the soft reset
takes place, or waits for an ARM frame. -/
def State.closeLink (s : State) : State :=
  if s.link.handling = .closing ∧ s.link.slot = none then
    if s.armLeaving then { s with link := { s.link with resetDue := true } } else s.softReset
  else s

/-- HOST_TX_FRAME_DONE (R166). -/
def execHostTxFrameDone (s : State) : Host.Outcome State Fault Refusal :=
  match s.link.tx with
  | none => finish s
  | some f => finish (s.endFrame f).closeLink

/-! ### Receive errors (R162) -/

/-- R201: the reasons of LINK_FRAME, GAP first. -/
inductive LinkReason where
  | gap
  | length
  | byteError
  | crc
  deriving DecidableEq, Repr

/-- The code of a reason. -/
def LinkReason.code : LinkReason → Nat
  | .gap => 0
  | .length => 1
  | .byteError => 2
  | .crc => 3

/-- R162: the receive error counter of a reason rises. -/
def Link.countError (r : LinkReason) (l : Link) : Link :=
  match r with
  | .gap => { l with errGap := satAdd 65535 l.errGap 1 }
  | .length => { l with errLength := satAdd 65535 l.errLength 1 }
  | .byteError => { l with errByte := satAdd 65535 l.errByte 1 }
  | .crc => { l with errCrc := satAdd 65535 l.errCrc 1 }

/-- R162: the frame being received is abandoned. While the part starts up, or with the receiver HUNTING, there is none
(log entry 9). -/
def State.abandonHostFrame (r : LinkReason) (s : State) : State :=
  if s.link.receiver = .inFrame ∧ s.link.handling ≠ .starting then
    State.raise .linkFrame { qualifier := r.code, number := 0 } { s.hostHunt with link := s.hostHunt.link.countError r }
  else s

/-- HOST_FRAME_ERROR (R162). -/
def execHostFrameError (what : HostFrameFault) (s : State) : Host.Outcome State Fault Refusal :=
  match what with
  | .length => finish (s.abandonHostFrame .length)
  | .byteError => finish (s.abandonHostFrame .byteError)
  | .crc => finish (s.abandonHostFrame .crc)

/-- HOST_BYTE_GAP_TIMEOUT (R162). -/
def execHostByteGapTimeout (s : State) : Host.Outcome State Fault Refusal := finish (s.abandonHostFrame .gap)

/-- HOST_RX_PREAMBLE (R162); the receiver does not run while the part starts up. -/
def execHostRxPreamble (s : State) : Host.Outcome State Fault Refusal :=
  if s.link.handling = .starting then finish s
  else finish { s with link := { s.link with receiver := .inFrame } }

/-! ### IDENTIFY, STATUS and unknown requests (R164, R168, R169) -/

/-- R168: the result fields of IDENTIFY. -/
def identifyBytes (rate : Nat) : List Byte :=
  u16 Config.vendorCode ++ u16 Config.partCode ++ u8 Config.revision ++ u32 rate ++ u8 tableCapacity ++ u8 4
    ++ u8 spanCapacity ++ u8 eventCapacity ++ u8 8 ++ u8 summaryCapacity ++ u16 1024

/-- IDENTIFY (R168). -/
def execIdentify (payload : List Byte) (s : State) : Host.Outcome State Fault Refusal :=
  finish (s.request 0x01 (decide (payload.length = 0)) fun t => t.accept 0x01 (identifyBytes t.link.rate))

/-- R169: the run fields. DESIGN CHOICE (log entry 39): the overlap zone is 1 when set and 0 when clear. -/
def statusRun (s : State) : List Byte :=
  u8 s.run.state.code ++ u16 s.run.number ++ [maskByte [s.run.cause.isSome, s.run.causeFault.isSome]]
    ++ u8 (s.run.cause.elim 0 RunCause.code) ++ u8 (s.run.causeFault.elim 0 FaultCode.number) ++ [flagByte s.mark.zone]

/-- R169: the travel fields. -/
def statusTravel (s : State) : List Byte :=
  i32 s.pos ++ i32 s.odo.furthest ++ i32 s.odo.speed ++ u8 s.odo.direction.code ++ u8 s.odo.phaseLevel

/-- R169: the exposure fields. DESIGN CHOICE (log entry 39): whether a staged EXPOSURE set or a staged LINE set is held is
two indications of one byte each, EXPOSURE first. -/
def statusExposure (s : State) : List Byte :=
  u8 s.expo.state.code ++ w32 s.expo.counter ++ u32 s.expo.skipped
    ++ [flagByte s.cfg.stagedExposure.isSome, flagByte s.cfg.stagedLine.isSome]

/-- R169: the condition of a head, LIVE 0 or LOST 1, and its silence count. -/
def statusHead (l : HeadLink) : List Byte := [flagByte (!l.live)] ++ u8 l.silence

/-- R169: the queue and attention fields. DESIGN CHOICE (log entry 39): ATTN_N is 1 when active and 0 when inactive. -/
def statusQueues (s : State) : List Byte :=
  u8 s.rep.spans.items.length ++ u8 s.rep.spans.available ++ [flagByte s.rep.spans.inFlight]
    ++ u8 s.rep.events.items.length ++ [maskByte (activeCauses s.cfg.reporting.spanMark s.rep).members]
    ++ [flagByte s.rep.attn]

/-- R169: the link and calibration fields. -/
def statusLink (s : State) : List Byte :=
  u16 s.link.errGap ++ u16 s.link.errLength ++ u16 s.link.errByte ++ u16 s.link.errCrc
    ++ [flagByte (!s.cal.valid), flagByte s.cal.modified, flagByte s.cal.storing] ++ u8 s.cal.lastResult.code

/-- R169: the result fields of STATUS, in the order of the rule's table (log entries 15 and 39). -/
def statusBytes (s : State) : List Byte :=
  statusRun s ++ statusTravel s ++ statusExposure s ++ statusHead s.heads.a ++ statusHead s.heads.b
    ++ toBytes 2 s.beamTemperature ++ [flagByte s.att.held] ++ statusQueues s ++ totalBytes s.rep.faults ++ statusLink s

/-- STATUS (R169), answered during a store as at any other time (R177). -/
def execStatus (payload : List Byte) (s : State) : Host.Outcome State Fault Refusal :=
  finish (s.wholeFrame 0x02 fun t =>
    if payload.length = 0 then t.accept 0x02 (statusBytes t) else t.refuse 0x02 .badLength)

/-- R164, R170: a SET_GROUP frame that names no known group. -/
def State.unknownGroup (payload : List Byte) (s : State) : State :=
  match payload with
  | [] => s.refuse 0x03 .badLength
  | _ :: _ => if s.cal.storing then s.refuse 0x03 .busy else s.refuseValue 0x03 0

/-- UNKNOWN_REQUEST (R164). -/
def execUnknownRequest (kind : Byte) (payload : List Byte) (s : State) : Host.Outcome State Fault Refusal :=
  finish (s.wholeFrame kind fun t =>
    if kind = 0x03 then t.unknownGroup payload else t.refuse kind .unknownRequest)

end Sys2Proof.Machine
end

