-- ==== Sys2Proof/Machine/Dispatch.lean ====
section
/-! DEFINITION. One arm for each command. -/

namespace Sys2Proof.Machine

/-- A command's effect on everything but the queue. -/
def exec (i : Instr) (s : State) : Host.Outcome State Fault Refusal :=
  match i with
  | .powerOnReset pins storeWritten => Sys2Proof.Machine.execPowerOnReset pins storeWritten s
  | .calLoadDone => Sys2Proof.Machine.execCalLoadDone s
  | .identify payload => Sys2Proof.Machine.execIdentify payload s
  | .status payload => Sys2Proof.Machine.execStatus payload s
  | .setGroupExposure bytes => Sys2Proof.Machine.execSetGroupExposure bytes s
  | .setGroupOdometry bytes => Sys2Proof.Machine.execSetGroupOdometry bytes s
  | .setGroupAttitude bytes => Sys2Proof.Machine.execSetGroupAttitude bytes s
  | .setGroupMarkers bytes => Sys2Proof.Machine.execSetGroupMarkers bytes s
  | .setGroupTracking bytes => Sys2Proof.Machine.execSetGroupTracking bytes s
  | .setGroupLine bytes => Sys2Proof.Machine.execSetGroupLine bytes s
  | .setGroupWireTypes bytes => Sys2Proof.Machine.execSetGroupWireTypes bytes s
  | .setGroupReporting bytes => Sys2Proof.Machine.execSetGroupReporting bytes s
  | .getGroup payload => Sys2Proof.Machine.execGetGroup payload s
  | .startRun payload => Sys2Proof.Machine.execStartRun payload s
  | .stopRun payload => Sys2Proof.Machine.execStopRun payload s
  | .exposeOnce payload rsvRdy => Sys2Proof.Machine.execExposeOnce payload rsvRdy s
  | .operatorMark payload => Sys2Proof.Machine.execOperatorMark payload s
  | .readLive payload => Sys2Proof.Machine.execReadLive payload s
  | .fetchSpans payload => Sys2Proof.Machine.execFetchSpans payload s
  | .fetchEvents payload => Sys2Proof.Machine.execFetchEvents payload s
  | .ackAttention payload => Sys2Proof.Machine.execAckAttention payload s
  | .readFaults payload => Sys2Proof.Machine.execReadFaults payload s
  | .clearFaults payload => Sys2Proof.Machine.execClearFaults payload s
  | .writeCal payload => Sys2Proof.Machine.execWriteCal payload s
  | .readCal payload => Sys2Proof.Machine.execReadCal payload s
  | .storeCal payload => Sys2Proof.Machine.execStoreCal payload s
  | .calStoreDone readBack => Sys2Proof.Machine.execCalStoreDone readBack s
  | .calTemperature payload => Sys2Proof.Machine.execCalTemperature payload s
  | .resetPart payload => Sys2Proof.Machine.execResetPart payload s
  | .unknownRequest kind payload => Sys2Proof.Machine.execUnknownRequest kind payload s
  | .hostFrameError reason => Sys2Proof.Machine.execHostFrameError reason s
  | .hostByteGapTimeout => Sys2Proof.Machine.execHostByteGapTimeout s
  | .hostTxFrameDone => Sys2Proof.Machine.execHostTxFrameDone s
  | .armFrameSent head => Sys2Proof.Machine.execArmFrameSent head s
  | .returnsFrameReceived head payload rsvRdy => Sys2Proof.Machine.execReturnsFrameReceived head payload rsvRdy s
  | .headFrameError head what => Sys2Proof.Machine.execHeadFrameError head what s
  | .headByteGapTimeout head => Sys2Proof.Machine.execHeadByteGapTimeout head s
  | .headTimeout tag rsvRdy => Sys2Proof.Machine.execHeadTimeout tag rsvRdy s
  | .trigInChange => Sys2Proof.Machine.execTrigInChange s
  | .trigInFilterExpiry rsvRdy => Sys2Proof.Machine.execTrigInFilterExpiry rsvRdy s
  | .periodTimerExpiry rsvRdy => Sys2Proof.Machine.execPeriodTimerExpiry rsvRdy s
  | .burstPulseTimer => Sys2Proof.Machine.execBurstPulseTimer s
  | .lasAckChange => Sys2Proof.Machine.execLasAckChange s
  | .stuckTimerExpiry => Sys2Proof.Machine.execStuckTimerExpiry s
  | .ackCountDecision => Sys2Proof.Machine.execAckCountDecision s
  | .blankOutEnd => Sys2Proof.Machine.execBlankOutEnd s
  | .chargeGuardExpiry => Sys2Proof.Machine.execChargeGuardExpiry s
  | .encoderValidEdge line rsvRdy => Sys2Proof.Machine.execEncoderValidEdge line rsvRdy s
  | .encoderPhaseError => Sys2Proof.Machine.execEncoderPhaseError s
  | .phaseDecayTimer => Sys2Proof.Machine.execPhaseDecayTimer s
  | .speedGate => Sys2Proof.Machine.execSpeedGate s
  | .markerInputChange marker => Sys2Proof.Machine.execMarkerInputChange marker s
  | .markerDebounceExpiry marker => Sys2Proof.Machine.execMarkerDebounceExpiry marker s
  | .adcConversionDone code => Sys2Proof.Machine.execAdcConversionDone code s
  | .attnPulseEnd => Sys2Proof.Machine.execAttnPulseEnd s
  | .hostRxPreamble => Sys2Proof.Machine.execHostRxPreamble s
  | .headRxPreamble head => Sys2Proof.Machine.execHeadRxPreamble head s

end Sys2Proof.Machine
end

