-- ==== Sys2Proof/Safety.lean ====
section
/-! DEFINITION. What counts as a safe state: the bounds and level rules that the manual states of the whole part; and the
words in which the statements speak: when a request can be taken, what a reply is, which sets are in range and how a host
lays them out. -/

namespace Sys2Proof.Machine

/-- A signed number within a range. -/
def within (lo hi v : Int) : Prop := lo ≤ v ∧ v ≤ hi

/-! ### Rules of the whole part -/

/-- R6: the table never holds more than four entries. -/
def State.tableBounded (s : State) : Prop := s.table.length ≤ 4

/-- R148, R151: the queues never hold more than 32 records and 64 events. -/
def State.queuesBounded (s : State) : Prop := s.rep.spans.items.length ≤ 32 ∧ s.rep.events.items.length ≤ 64

/-- R149: the in-flight mark stands on a record of the queue. -/
def State.flightHeld (s : State) : Prop := s.rep.spans.inFlight = true → s.rep.spans.items ≠ []

/-- R158: ATTN_N is active exactly while a cause that the mask enables is active and no pulse runs. -/
def State.attnFollows (s : State) : Prop := s.rep.attn = attnLevel s.cfg.reporting s.rep

/-- R44: the phase-error level is a count of 0..16. -/
def State.phaseBounded (s : State) : Prop := s.odo.phaseLevel ≤ 16

/-- R4, R12: a silence count of 0..16, and a head is LOST exactly when its count stands at 16. -/
def HeadLink.consistent (l : HeadLink) : Prop := l.silence ≤ 16 ∧ (l.live = false ↔ l.silence = 16)

/-- R4, R12 for both heads. -/
def State.headsConsistent (s : State) : Prop := s.heads.a.consistent ∧ s.heads.b.consistent

/-- R52: in STOPPED every channel and the mast source are IDLE. -/
def State.markersIdleWhenStopped (s : State) : Prop :=
  s.run.state = .stopped → (∀ m : Marker, (s.mark.channels.get m).state = .idle) ∧ s.mark.mast.state = .idle

/-- R45: the speed stays within ±100,000 mm/s. -/
def State.speedBounded (s : State) : Prop := within (-100000) 100000 s.odo.speed

/-- R42: the accumulator is a signed 64-bit count. -/
def State.accumulatorFits (s : State) : Prop := within (-9223372036854775808) 9223372036854775807 s.odo.acc

/-- R178: there are 23 fault records, and a counter stops at 65,535. -/
def State.faultsComplete (s : State) : Prop :=
  s.rep.faults.length = 23 ∧ ∀ r ∈ s.rep.faults, r.count ≤ 65535

/-- R29, R136, R162: the skipped total, the run number and the receive error counters stay within their widths. -/
def State.countsFit (s : State) : Prop :=
  s.expo.skipped ≤ 4294967295 ∧ s.run.number ≤ 65535 ∧ s.link.errGap ≤ 65535 ∧ s.link.errLength ≤ 65535
    ∧ s.link.errByte ≤ 65535 ∧ s.link.errCrc ≤ 65535

/-- The bounds that every step keeps, taken together. -/
structure State.Bounded (s : State) : Prop where
  table : s.tableBounded
  queues : s.queuesBounded
  flight : s.flightHeld
  phase : s.phaseBounded
  heads : s.headsConsistent
  speed : s.speedBounded
  accumulator : s.accumulatorFits
  faults : s.faultsComplete
  counts : s.countsFit

/-- R20, R30 to R33, R35: EXP_SYNC is active in WINDOW alone, LAS_DRV is off outside it, the burst and the stuck timer run
exactly in WINDOW, and the blank-out timer exactly in BLANK. -/
def State.outputsFollowExposure (s : State) : Prop :=
  (s.expo.expSync = true ↔ s.expo.state = .window) ∧ (s.expo.state ≠ .window → s.expo.lasDrv = false)
    ∧ (s.expo.burst.isSome = true ↔ s.expo.state = .window) ∧ (s.expo.stuckDue.isSome = true ↔ s.expo.state = .window)
    ∧ (s.expo.blankDue.isSome = true ↔ s.expo.state = .blank)

/-- R20, R25, R36, R37: in STOPPED no exposure is unfinished, CHG_EN is inactive, and neither the charge guard nor the
period timer runs. -/
def State.quietWhenStopped (s : State) : Prop :=
  s.run.state = .stopped →
    s.expo.state ≠ .arming ∧ s.expo.state ≠ .window ∧ s.expo.chgEn = false ∧ s.expo.guardDue = none
      ∧ s.expo.periodDue = none

/-- The rules of the exposure outputs, taken together. -/
def State.exposureSafe (s : State) : Prop := s.outputsFollowExposure ∧ s.quietWhenStopped

/-- R129, R141: a span is open exactly in MEASURING; R115, R121, R129: a candidate is pending only in ARMED and MEASURING
and has its provisional span, and no monitor is open outside MEASURING. -/
def State.spansFollowRun (s : State) : Prop :=
  (s.span.opened.isSome = true ↔ s.run.state = .measuring)
    ∧ (s.span.candidate.isSome = true ↔ s.span.provisional.isSome = true)
    ∧ (s.span.candidate.isSome = true → s.run.state = .armed ∨ s.run.state = .measuring)
    ∧ (s.run.state ≠ .measuring → ∀ k : Slot, s.span.monitors.get k = .closed)

/-- R88, R103: every CONFIRMED or COASTING track has a wire id of 1..65,535, no two of them the same, no other track has
one, and the id counter stays in that range. -/
def Tracker.idsDistinct (t : Tracker) : Prop :=
  (1 ≤ t.nextId ∧ t.nextId ≤ 65535)
    ∧ (∀ k : Slot, (t.tracks.get k).state.isWire = true → ∃ n, (t.tracks.get k).wireId = some n ∧ 1 ≤ n ∧ n ≤ 65535)
    ∧ (∀ k : Slot, (t.tracks.get k).state.isWire = false → (t.tracks.get k).wireId = none)
    ∧ ∀ j k : Slot, j ≠ k → (t.tracks.get j).state.isWire = true → (t.tracks.get k).state.isWire = true →
        (t.tracks.get j).wireId ≠ (t.tracks.get k).wireId

/-- R151: the event numbers account for every event: the counter stands at the last stored number plus the losses since,
each event's number is that of the event before it plus one plus its gap, and the youngest is the last stored. -/
def EventQueue.accounts (q : EventQueue) : Prop :=
  q.seq = q.lastStored + q.lost
    ∧ (∀ n (x y : Event), q.items[n]? = some x → q.items[n + 1]? = some y → y.seq = x.seq + 1 + y.gap)
    ∧ ∀ x : Event, q.items.getLast? = some x → x.seq = q.lastStored

/-- R148, R149: the span record numbers account for every closed span, whose numbers `seq` counts: the chain runs over the
records that are not in flight, since a fetch takes those while the in-flight record stays. -/
def SpanQueue.accounts (seq : Word32) (q : SpanQueue) : Prop :=
  seq = q.lastStored + q.lost
    ∧ (∀ n (x y : SpanRec), q.waiting[n]? = some x → q.waiting[n + 1]? = some y → y.seq = x.seq + 1 + y.gap)
    ∧ ∀ x : SpanRec, q.waiting.getLast? = some x → x.seq = q.lastStored

/-- R148, R151: the gaps of both queues account for every loss. -/
def State.gapsAccount (s : State) : Prop := s.rep.events.accounts ∧ s.rep.spans.accounts s.span.seq

/-! ### Arithmetic and skips -/

/-- R71: `q` is the quotient of `n` by `d` rounded half away from zero. -/
def rounds (n d q : Int) : Prop :=
  2 * (n - q * d).natAbs ≤ d.natAbs ∧ (2 * (n - q * d).natAbs = d.natAbs → n.natAbs < (q * d).natAbs)

/-- R29, R117, R120: one skip with its fault: the total, the count of the span that the position held selects, and live
slot 3. -/
def State.skippedOnce (c : FaultCode) (v : FaultValue) (s : State) : State :=
  let total := min 4294967295 (s.expo.skipped + 1)
  let bump (r : SpanRec) : SpanRec := { r with skipped := min 65535 (r.skipped + 1) }
  let inProvisional := match s.span.candidate with
    | some c => decide (c.position ≤ s.pos)
    | none => false
  let t := State.raise c v { s with expo := { s.expo with skipped := total } }
  { t with
    span := if inProvisional then { s.span with provisional := s.span.provisional.map bump }
            else { s.span with opened := s.span.opened.map bump }
    live := { s.live with
              expo := { s.live.expo with
                        counter := s.expo.counter, skipped := total, rsvRdy := s.pins.rsvRdy, fresh := true } } }

/-! ### Requests and replies (R163 to R165, R201) -/

/-- A host request can be taken: handling OPEN, the reply slot empty, no store in progress. -/
def State.takesRequests (s : State) : Prop :=
  s.link.handling = .openForRequests ∧ s.link.slot = none ∧ s.cal.storing = false

/-- The end of a request that is answered at once: the host receiver hunts again, and a reply of a kind with a payload
lies in the reply slot. -/
def State.answered (kind : Byte) (payload : List Byte) (s : State) : State :=
  { s with link := { s.link with receiver := .hunting, slot := some { kind := kind, payload := payload } } }

/-- A host frame that is discarded: the receiver hunts again. -/
def State.discarded (s : State) : State := { s with link := { s.link with receiver := .hunting } }

end Sys2Proof.Machine

namespace Sys2Proof

open Sys2Proof.Machine

/-- What a request samples before anything else: EXPOSE_ONCE finds RSV_RDY at a level (log entry 4). -/
def Instr.sampled (c : Instr) (s : State) : State :=
  match c with
  | .exposeOnce _ r => { s with pins := { s.pins with rsvRdy := r } }
  | _ => s

/-- R201: the payload length of a request; for a SET_GROUP, that of the set after its group code. An unknown request has
none. -/
def Instr.requestLength (c : Instr) : Option Nat :=
  match c with
  | .identify _ | .status _ | .stopRun _ | .exposeOnce _ _ | .readFaults _ | .clearFaults _ | .readCal _ | .storeCal _
  | .resetPart _ => some 0
  | .getGroup _ | .operatorMark _ | .fetchSpans _ | .fetchEvents _ | .ackAttention _ => some 1
  | .readLive _ | .calTemperature _ => some 2
  | .startRun _ => some 4
  | .writeCal _ => some 59
  | .setGroupExposure _ => some 17
  | .setGroupOdometry _ => some 8
  | .setGroupAttitude _ => some 3
  | .setGroupMarkers _ => some 15
  | .setGroupTracking _ => some 19
  | .setGroupLine _ => some 14
  | .setGroupWireTypes _ => some 24
  | .setGroupReporting _ => some 3
  | _ => none

/-- The bytes whose length R164 checks: a request's payload, for a SET_GROUP without its group code. -/
def Instr.operandBytes (c : Instr) : List Byte :=
  match c with
  | .setGroupExposure b | .setGroupOdometry b | .setGroupAttitude b | .setGroupMarkers b | .setGroupTracking b
  | .setGroupLine b | .setGroupWireTypes b | .setGroupReporting b => b
  | _ => (frameOfRequest c).elim [] Frame.payload

/-- The run states (and for EXPOSE_ONCE the mode) in which a request's own rule takes it (R26, R40, R49, R57, R58, R68,
R89, R114, R137, R139, R175, R176); the others are taken in every run state. -/
def Instr.takenIn (c : Instr) (s : State) : Prop :=
  match c with
  | .setGroupOdometry _ | .setGroupAttitude _ | .setGroupMarkers _ | .setGroupTracking _ | .setGroupWireTypes _
  | .startRun _ | .writeCal _ | .storeCal _ | .calTemperature _ => s.run.state = .stopped
  | .stopRun _ | .operatorMark _ => s.run.state ≠ .stopped
  | .exposeOnce _ _ => (s.run.state = .armed ∨ s.run.state = .measuring) ∧ s.cfg.exposure.mode = .single
  | _ => True

end Sys2Proof

namespace Sys2Proof.Machine

/-! ### The field that BAD_VALUE names (R165; log entry 14) -/

/-- The value of an unsigned field of `width` bytes at an offset of a payload. -/
def fieldNat (b : List Byte) (at_ width : Nat) : Int := natOfBytes ((b.drop at_).take width)

/-- The value of a signed field of `width` bytes at an offset of a payload. -/
def fieldInt (b : List Byte) (at_ width : Nat) : Int := ofBytes true ((b.drop at_).take width)

/-- `i` is the index of the first condition that fails, counted from `n`. -/
def firstFails : Nat → List Prop → Nat → Prop
  | _, [], _ => False
  | n, p :: ps, i => (¬ p ∧ i = n) ∨ (p ∧ firstFails (n + 1) ps i)

/-- `i` is the index, counted from `n`, of the first field out of range, or with every field in range that of the later
field of a relation that fails. -/
def failsAt (n : Nat) (ranges : List Prop) (relation : Prop) (later i : Nat) : Prop :=
  firstFails n ranges i ∨ ((∀ p ∈ ranges, p) ∧ ¬ relation ∧ i = later)

/-- The ranges of an EXPOSURE payload in layout order (spec 2.1, R197). -/
def exposureRanges (b : List Byte) : List Prop :=
  [within 0 3 (fieldNat b 0 1), within 25 1000 (fieldNat b 1 2), within 1 1000 (fieldNat b 3 2),
    within 1 32 (fieldNat b 5 1), within 1 255 (fieldNat b 6 1), within 1 255 (fieldNat b 7 1),
    within 0 500 (fieldNat b 8 2), within 5 500 (fieldNat b 10 2), within 0 200 (fieldNat b 12 1),
    within 0 1 (fieldNat b 13 1), within 1 40 (fieldNat b 14 1), within 5 100 (fieldNat b 15 1),
    within 10 200 (fieldNat b 16 1)]

/-- The ranges of an ODOMETRY payload (spec 3.1). -/
def odometryRanges (b : List Byte) : List Prop :=
  [within 1000 2000000 (fieldNat b 0 4), within 0 1 (fieldNat b 4 1), within 100 10000 (fieldNat b 5 2),
    within 0 1 (fieldNat b 7 1)]

/-- The ranges of an ATTITUDE payload (spec 4.1). -/
def attitudeRanges (b : List Byte) : List Prop :=
  [fieldNat b 0 2 = 64 ∨ fieldNat b 0 2 = 128 ∨ fieldNat b 0 2 = 256 ∨ fieldNat b 0 2 = 512, within 1 50 (fieldNat b 2 1)]

/-- The ranges of a MARKERS payload (spec 3.5). -/
def markerRanges (b : List Byte) : List Prop :=
  [within 0 1 (fieldNat b 0 1), within 0 1 (fieldNat b 1 1), within 0 1 (fieldNat b 2 1), within 0 1 (fieldNat b 3 1),
    within 0 2000 (fieldNat b 4 2), within 0 2000 (fieldNat b 6 2), within 0 2000 (fieldNat b 8 2),
    within 0 2000 (fieldNat b 10 2), within 0 3 (fieldNat b 12 1), within 0 2 (fieldNat b 13 1),
    within 0 1 (fieldNat b 14 1)]

/-- The ranges of a TRACKING payload (spec 6.2). -/
def trackingRanges (b : List Byte) : List Prop :=
  [within 0 255 (fieldNat b 0 1), within 0 64 (fieldNat b 1 1), within 5 100 (fieldNat b 2 1),
    within 10 200 (fieldNat b 3 1), within 2 30 (fieldNat b 4 1), within 10 100 (fieldNat b 5 1),
    within 2 16 (fieldNat b 6 1), within 200 10000 (fieldNat b 7 2), within 200 5000 (fieldNat b 9 2),
    within 4000 7500 (fieldNat b 11 2), within 4000 7500 (fieldNat b 13 2), within 0 1000 (fieldNat b 15 2),
    within 100 2000 (fieldNat b 17 2)]

/-- The ranges of a LINE payload (spec 7.1). -/
def lineRanges (b : List Byte) : List Prop :=
  [within 0 3 (fieldNat b 0 1), within 100 800 (fieldNat b 1 2), within 1 50 (fieldNat b 3 1),
    within 4000 6500 (fieldNat b 4 2), within 1 100 (fieldNat b 6 1), within 10 500 (fieldNat b 7 2),
    within 5 50 (fieldNat b 9 1), within 40 200 (fieldNat b 10 1), within 10 1000 (fieldNat b 11 2),
    within 1 2 (fieldNat b 13 1)]

/-- The ranges of one WIRE_TYPES entry at an offset (R114); the diameter is carried in steps of 2 µm. -/
def wireTypeRanges (b : List Byte) (at_ : Nat) : List Prop :=
  [within 4000 8000 (fieldNat b at_ 2), within 1 (2 * fieldNat b at_ 2 - 1) (fieldNat b (at_ + 2) 2),
    within 0 65535 (fieldNat b (at_ + 4) 2)]

/-- The ranges of a REPORTING payload (spec 9.3). -/
def reportingRanges (b : List Byte) : List Prop :=
  [within 0 1 (fieldNat b 0 1), within 1 32 (fieldNat b 1 1), within 0 31 (fieldNat b 2 1)]

/-- The ranges of the calibration fields (R173). -/
def calRanges (b : List Byte) : List Prop :=
  [within 100000 2000000 (fieldNat b 0 4), within 100000 2000000 (fieldNat b 4 4), within 2000000 6000000 (fieldNat b 8 4),
    within 500 4000 (fieldNat b 12 2), within 1 2000000 (fieldNat b 14 4), within 1 2000000 (fieldNat b 18 4),
    within 1 2000000 (fieldNat b 22 4), within (-8388607) 8388607 (fieldInt b 26 4),
    within (-8388607) 8388607 (fieldInt b 30 4), within (-8388607) 8388607 (fieldInt b 34 4), within 0 50 (fieldNat b 38 1),
    within (-4000) 8500 (fieldInt b 39 2), within 1 8388607 (fieldNat b 41 4), within 23315 35815 (fieldNat b 45 2),
    within (-10000) 10000 (fieldInt b 47 2), within (-10000) 10000 (fieldInt b 49 2), within (-10000) 10000 (fieldInt b 51 2),
    within (-10000) 10000 (fieldInt b 53 2), within 0 4294967295 (fieldNat b 55 4)]

/-! ### The configuration sets: ranges (spec 2.1, 3.1, 3.5, 4.1, 6.2, 7.1, 9.3, R114, R173) and layouts (R197, R201) -/

/-- The ranges of spec 2.1 in the units of the steps, and the relations of R38. -/
def ExposureSet.inRange (e : ExposureSet) : Prop :=
  (25 ≤ e.pitch ∧ e.pitch ≤ 1000) ∧ (1 ≤ e.period ∧ e.period ≤ 1000) ∧ (1 ≤ e.pulses ∧ e.pulses ≤ 32)
    ∧ (1 ≤ e.onTime ∧ e.onTime ≤ 255) ∧ (1 ≤ e.offTime ∧ e.offTime ≤ 255) ∧ e.blankOut ≤ 500
    ∧ (5 ≤ e.stuckWindow ∧ e.stuckWindow ≤ 500) ∧ e.chargeGuard ≤ 200 ∧ (1 ≤ e.headTimeout ∧ e.headTimeout ≤ 40)
    ∧ (5 ≤ e.dedupDx ∧ e.dedupDx ≤ 100) ∧ (10 ≤ e.dedupDz ∧ e.dedupDz ≤ 200)
    ∧ e.onTime < 2 * e.stuckWindow ∧ e.offTime < 2 * e.stuckWindow

/-- The EXPOSURE set as a host lays it out, 17 bytes. -/
def ExposureSet.payload (e : ExposureSet) : List Byte :=
  toBytes 1 e.mode.code ++ toBytes 2 e.pitch ++ toBytes 2 e.period ++ toBytes 1 e.pulses ++ toBytes 1 e.onTime
    ++ toBytes 1 e.offTime ++ toBytes 2 e.blankOut ++ toBytes 2 e.stuckWindow ++ toBytes 1 e.chargeGuard
    ++ [flagByte e.quiet] ++ toBytes 1 e.headTimeout ++ toBytes 1 e.dedupDx ++ toBytes 1 e.dedupDz

/-- The ranges of spec 3.1. -/
def OdometrySet.inRange (o : OdometrySet) : Prop :=
  (1000 ≤ o.nmPerCount ∧ o.nmPerCount ≤ 2000000) ∧ (100 ≤ o.reverseDistance ∧ o.reverseDistance ≤ 10000)

/-- The ODOMETRY set as a host lays it out, 8 bytes. -/
def OdometrySet.payload (o : OdometrySet) : List Byte :=
  toBytes 4 o.nmPerCount ++ [flagByte o.inverted] ++ toBytes 2 o.reverseDistance ++ [flagByte o.reversed]

/-- The ranges of spec 4.1, and R58: the maximum age in µs is at least eight conversions of OSR × 4 µs. -/
def AttitudeSet.inRange (a : AttitudeSet) : Prop :=
  (a.osr = 64 ∨ a.osr = 128 ∨ a.osr = 256 ∨ a.osr = 512) ∧ (1 ≤ a.maxAge ∧ a.maxAge ≤ 50)
    ∧ 8 * (4 * a.osr) ≤ 1000 * a.maxAge

/-- The ATTITUDE set as a host lays it out, 3 bytes. -/
def AttitudeSet.payload (a : AttitudeSet) : List Byte := toBytes 2 a.osr ++ toBytes 1 a.maxAge

/-- The ranges of spec 3.5. -/
def MarkerSet.inRange (m : MarkerSet) : Prop :=
  m.qualify.e0 ≤ 2000 ∧ m.qualify.e1 ≤ 2000 ∧ m.qualify.e2 ≤ 2000 ∧ m.qualify.e3 ≤ 2000

/-- The MARKERS set as a host lays it out, 15 bytes. -/
def MarkerSet.payload (m : MarkerSet) : List Byte :=
  [flagByte m.debounce.e0, flagByte m.debounce.e1, flagByte m.debounce.e2, flagByte m.debounce.e3]
    ++ toBytes 2 m.qualify.e0 ++ toBytes 2 m.qualify.e1 ++ toBytes 2 m.qualify.e2 ++ toBytes 2 m.qualify.e3
    ++ toBytes 1 m.mast.code ++ toBytes 1 m.overlap.code ++ [flagByte m.siteMarks]

/-- The ranges of spec 6.2, and R89: the height window's lower limit is below its upper limit. -/
def TrackingSet.inRange (t : TrackingSet) : Prop :=
  t.accept ≤ 255 ∧ t.hysteresis ≤ 64 ∧ (5 ≤ t.staggerGate ∧ t.staggerGate ≤ 100)
    ∧ (10 ≤ t.heightGate ∧ t.heightGate ≤ 200) ∧ (2 ≤ t.mergeStagger ∧ t.mergeStagger ≤ 30)
    ∧ (10 ≤ t.mergeHeight ∧ t.mergeHeight ≤ 100) ∧ (2 ≤ t.confirmHits ∧ t.confirmHits ≤ 16)
    ∧ (200 ≤ t.coastDistance ∧ t.coastDistance ≤ 10000) ∧ (200 ≤ t.duplicateLength ∧ t.duplicateLength ≤ 5000)
    ∧ (4000 ≤ t.windowLow ∧ t.windowLow < t.windowHigh ∧ t.windowHigh ≤ 7500) ∧ t.overlapLift ≤ 1000
    ∧ (100 ≤ t.wearResolution ∧ t.wearResolution ≤ 2000)

/-- The TRACKING set as a host lays it out, 19 bytes. -/
def TrackingSet.payload (t : TrackingSet) : List Byte :=
  toBytes 1 t.accept ++ toBytes 1 t.hysteresis ++ toBytes 1 t.staggerGate ++ toBytes 1 t.heightGate
    ++ toBytes 1 t.mergeStagger ++ toBytes 1 t.mergeHeight ++ toBytes 1 t.confirmHits ++ toBytes 2 t.coastDistance
    ++ toBytes 2 t.duplicateLength ++ toBytes 2 t.windowLow ++ toBytes 2 t.windowHigh ++ toBytes 2 t.overlapLift
    ++ toBytes 2 t.wearResolution

/-- The ranges of spec 7.1, and R113: the span minimum is below the span maximum. -/
def LineSet.inRange (l : LineSet) : Prop :=
  l.wireType ≤ 3 ∧ (100 ≤ l.staggerLimit ∧ l.staggerLimit ≤ 800) ∧ (1 ≤ l.staggerHyst ∧ l.staggerHyst ≤ 50)
    ∧ (4000 ≤ l.heightLow ∧ l.heightLow ≤ 6500) ∧ (1 ≤ l.heightHyst ∧ l.heightHyst ≤ 100)
    ∧ (10 ≤ l.wearHyst ∧ l.wearHyst ≤ 500) ∧ (5 ≤ l.spanMin ∧ l.spanMin ≤ 50) ∧ (40 ≤ l.spanMax ∧ l.spanMax ≤ 200)
    ∧ (10 ≤ l.wireLoss ∧ l.wireLoss ≤ 1000) ∧ (1 ≤ l.wiresPerLine ∧ l.wiresPerLine ≤ 2) ∧ l.spanMin < l.spanMax

/-- The LINE set as a host lays it out, 14 bytes. -/
def LineSet.payload (l : LineSet) : List Byte :=
  toBytes 1 l.wireType ++ toBytes 2 l.staggerLimit ++ toBytes 1 l.staggerHyst ++ toBytes 2 l.heightLow
    ++ toBytes 1 l.heightHyst ++ toBytes 2 l.wearHyst ++ toBytes 1 l.spanMin ++ toBytes 1 l.spanMax
    ++ toBytes 2 l.wireLoss ++ toBytes 1 l.wiresPerLine

/-- The ranges of R114, the diameter being twice the radius. -/
def WireType.inRange (w : WireType) : Prop :=
  (8000 ≤ 2 * w.radius ∧ 2 * w.radius ≤ 16000) ∧ (1 ≤ w.minRemaining ∧ w.minRemaining < 2 * w.radius)
    ∧ w.code ≤ 65535

/-- Every entry of the table is in range (R114). -/
def wireTypesInRange (t : Four WireType) : Prop :=
  t.e0.inRange ∧ t.e1.inRange ∧ t.e2.inRange ∧ t.e3.inRange

/-- One entry as a host lays it out, the diameter in steps of 2 µm, 6 bytes. -/
def WireType.payload (w : WireType) : List Byte :=
  toBytes 2 w.radius ++ toBytes 2 w.minRemaining ++ toBytes 2 w.code

/-- The WIRE_TYPES table as a host lays it out, 24 bytes. -/
def wireTypesPayload (t : Four WireType) : List Byte := t.e0.payload ++ t.e1.payload ++ t.e2.payload ++ t.e3.payload

/-- The range of spec 9.3. -/
def ReportingSet.inRange (r : ReportingSet) : Prop := 1 ≤ r.spanMark ∧ r.spanMark ≤ 32

/-- The REPORTING set as a host lays it out, 3 bytes. -/
def ReportingSet.payload (r : ReportingSet) : List Byte :=
  [flagByte r.streaming] ++ toBytes 1 r.spanMark
    ++ [maskByte [r.mask.spanAvailable, r.mask.eventAvailable, r.mask.queueLoss, r.mask.fault, r.mask.runState]]

/-- The ranges of R173. -/
def CalFields.inRange (c : CalFields) : Prop :=
  within 100000 2000000 c.lA ∧ within 100000 2000000 c.lB ∧ within 2000000 6000000 c.hb ∧ within 500 4000 c.spacing
    ∧ within 1 2000000 c.gainVL ∧ within 1 2000000 c.gainVR ∧ within 1 2000000 c.gainLAT
    ∧ within (-8388607) 8388607 c.zeroVL ∧ within (-8388607) 8388607 c.zeroVR ∧ within (-8388607) 8388607 c.zeroLAT
    ∧ within 0 50 c.alpha ∧ within (-4000) 8500 c.t0 ∧ within 1 8388607 c.codeRef ∧ within 23315 35815 c.tRef
    ∧ within (-10000) 10000 c.fieldALow ∧ within (-10000) 10000 c.fieldAHigh ∧ within (-10000) 10000 c.fieldBLow
    ∧ within (-10000) 10000 c.fieldBHigh ∧ within 0 4294967295 c.serial

/-- The calibration fields as a host lays them out, 59 bytes. -/
def CalFields.payload (c : CalFields) : List Byte :=
  toBytes 4 c.lA ++ toBytes 4 c.lB ++ toBytes 4 c.hb ++ toBytes 2 c.spacing ++ toBytes 4 c.gainVL ++ toBytes 4 c.gainVR
    ++ toBytes 4 c.gainLAT ++ toBytes 4 c.zeroVL ++ toBytes 4 c.zeroVR ++ toBytes 4 c.zeroLAT ++ toBytes 1 c.alpha
    ++ toBytes 2 c.t0 ++ toBytes 4 c.codeRef ++ toBytes 2 c.tRef ++ toBytes 2 c.fieldALow ++ toBytes 2 c.fieldAHigh
    ++ toBytes 2 c.fieldBLow ++ toBytes 2 c.fieldBHigh ++ toBytes 4 c.serial

/-- R3, R200: a RETURNS frame that a head may send: at most six returns, each numbered by its place and within the ranges
of spec 1.1. -/
def ReturnsFrame.inRange (f : ReturnsFrame) : Prop :=
  f.returns.length ≤ 6 ∧ f.returns.map HeadReturn.place = List.range f.returns.length
    ∧ ∀ r ∈ f.returns, within (-32768) 32767 r.xh ∧ r.zh ≤ 30000 ∧ r.wh ≤ 20000 ∧ r.peak ≤ 255

end Sys2Proof.Machine
end

