-- ==== Sys2Proof/Certificates/Slice0/Obligations.lean ====
section
/-! DEFINITION. The statements for the provers. An equation of a next state names every field that changes, so it is the
command's frame too; `State.settle`, which ends most of them, is what statement `ArbiterChoosesInOrder` lays down. -/

open Sys2Proof Sys2Proof.Machine

/-! ### The step and the whole part -/

/-- A command at the front of the queue runs with the queue's rest; with nothing waiting a tick passes. The queue and the
tick are the model's (log entry 1). -/
def Obligations.StepRunsTheFrontCommand : Prop :=
  (∀ (c : Instr) (rest : List Instr) (s : State),
      step { s with pending := c :: rest } = exec c { s with pending := rest })
    ∧ ∀ s : State, s.pending = [] → step s = .next { s with clock := s.clock + 1 }

/-- Every command answers a next state in every state (the model's reading, log entry 26), and leaves the commands that
wait as they are (the model's queue, log entry 1). -/
def Obligations.EveryCommandAnswersAndKeepsTheQueue : Prop :=
  ∀ (c : Instr) (s : State), ∃ t : State, exec c s = .next t ∧ t.pending = s.pending

/-- R4, R6, R12, R29, R42, R44, R45, R136, R148, R149, R151, R162, R178: the bounds are kept. -/
def Obligations.StepKeepsTheBounds : Prop :=
  ∀ s t : State, s.Bounded → step s = .next t → t.Bounded

/-- R20, R25, R30 to R37: the exposure outputs and timers follow the exposure state and are quiet in STOPPED. -/
def Obligations.StepKeepsTheExposureOutputs : Prop :=
  ∀ s t : State, s.exposureSafe → step s = .next t → t.exposureSafe

/-- R115, R121, R129, R141: spans, candidates and monitors stand only in the run states that have them. -/
def Obligations.StepKeepsSpansToTheRun : Prop :=
  ∀ s t : State, s.spansFollowRun → step s = .next t → t.spansFollowRun

/-- R88, R103: wire ids stay distinct and in range. -/
def Obligations.StepKeepsWireIdsDistinct : Prop :=
  ∀ s t : State, s.trk.idsDistinct → step s = .next t → t.trk.idsDistinct

/-- R148, R150, R151, R153: no record or event goes missing without its gap. -/
def Obligations.StepKeepsTheGapsAccounting : Prop :=
  ∀ s t : State, s.gapsAccount → step s = .next t → t.gapsAccount

/-- R52: the marker channels and the mast source are IDLE in STOPPED. -/
def Obligations.StepKeepsMarkersIdleInStopped : Prop :=
  ∀ s t : State, s.markersIdleWhenStopped → step s = .next t → t.markersIdleWhenStopped

/-- R4, R6, R20, R42 to R45, R52, R87, R115, R148, R151, R158, R162, R178: the state after reset meets every invariant
above, and ATTN_N follows its causes in it. -/
def Obligations.ResetMeetsTheInvariants : Prop :=
  State.reset.Bounded ∧ State.reset.exposureSafe ∧ State.reset.spansFollowRun ∧ State.reset.trk.idsDistinct
    ∧ State.reset.gapsAccount ∧ State.reset.markersIdleWhenStopped ∧ State.reset.attnFollows

/-- R158: after every command ATTN_N is active exactly while no pulse runs and a cause that the mask enables is active. A
reset leaves it inactive with no pulse running. -/
def Obligations.AttentionFollowsItsCauses : Prop :=
  (∀ (c : Instr) (s t : State), exec c s = .next t →
      (t.rep.attn = true ↔
        t.rep.pulseDue = none
          ∧ ((t.cfg.reporting.mask.spanAvailable = true ∧ t.cfg.reporting.spanMark ≤ t.rep.spans.available)
            ∨ (t.cfg.reporting.mask.eventAvailable = true ∧ t.rep.events.items ≠ [])
            ∨ (t.cfg.reporting.mask.queueLoss = true ∧ t.rep.lossCause = true)
            ∨ (t.cfg.reporting.mask.fault = true ∧ t.rep.faultCause = true)
            ∨ (t.cfg.reporting.mask.runState = true ∧ t.rep.runCause = true))))
    ∧ (∀ (pins : PinLevels) (written : Bool) (s : State), ∃ t : State,
        exec (.powerOnReset pins written) s = .next t ∧ t.rep.attn = false ∧ t.rep.pulseDue = none)
    ∧ ∀ s : State, s.softReset.rep.attn = false ∧ s.softReset.rep.pulseDue = none

/-! ### Layouts -/

/-- R161, R198, R201: the bytes of a host request's frame stand for that request; EXPOSE_ONCE takes the level of RSV_RDY
that is found at its moment (log entry 4), and a SET_GROUP of no known group stands under the unknown requests (log entry
23). -/
def Obligations.HostRequestBytesDecodeBack : Prop :=
  ∀ (c : Instr) (f : Frame) (rsv : Bool), c.wellFormed = true → frameOfRequest c = some f →
    (∀ (p : List Byte) (r : Bool), c = .exposeOnce p r → r = rsv) → commandOfBytes rsv (frameBytes f) = some c

/-- R173, R174, R199: a block that holds calibration fields within their ranges and their CRC-32, low byte first, passes
the check with those fields, and so does the block that a store writes. R3, R200: the payload of a RETURNS frame within
its ranges reads back as that frame; as a whole head frame it is valid with its own CRC-16 and fails CRC with any other.
-/
def Obligations.BlocksAndReturnsReadBack : Prop :=
  (∀ f : CalFields, f.inRange →
      checkBlock (f.payload ++ toBytes 4 (crc32 f.payload).toNat) = .passes f
        ∧ calImage f = f.payload ++ toBytes 4 (crc32 f.payload).toNat)
    ∧ ∀ f : ReturnsFrame, f.inRange →
        checkReturns (returnsBytes f) = .valid f
          ∧ ∀ crc : BitVec 16, checkHeadFrame 0x41 (returnsBytes f) crc =
              if crc = crc16 (toBytes 2 (returnsBytes f).length ++ 0x41 :: returnsBytes f) then .valid f
              else .failed .crc

/-- R202, R203: a span record takes 38 bytes and 48 for each summary; an event takes 18 bytes and its kind's own. The
room that a fetch and a report give them is counted by these lengths. R201, R204: a live slot takes its layout's bytes and
the fresh byte that READ_LIVE puts before them. -/
def Obligations.RecordsHaveTheirLayoutLength : Prop :=
  (∀ r : SpanRec, r.bytes.length = 38 + 48 * r.summaries.length ∧ r.size = r.bytes.length)
    ∧ (∀ e : Event, e.bytes.length = 18 + e.body.bytes.length ∧ e.size = e.bytes.length)
    ∧ ∀ (l : Live) (n : Nat), n < 8 →
        (l.slotBytes n).length =
          (if n = 0 then 11 else if n = 1 then 17 else if n = 2 then 6 else if n = 3 then 15 else 24)

/-! ### Faults and queues -/

/-- R180, R181, R182, R184: an occurrence of any class updates its code's record, in every run state and with any queue; a
notice does nothing else. A degrading occurrence sets the FAULT cause and produces its FAULT event exactly when the
consulted mark is clear: the span mark while a span is open and the run mark otherwise; the marks are set even when a full
queue loses the event. R36, R37, R112, R125, R128, R129, R144, R146: a halting occurrence is counted alone in STOPPED and
FAULTED. In ARMED, MEASURING and PAUSED its FAULT event comes first, then the open span, joined by a provisional one,
closes FAULT, the open monitors close RUN_END, the table, the tracks and an exposure in ARMING or WINDOW end, with that
moment as window end for the charge guard, and RUN_STATE names the fault and the closed span; each event is stored or lost
(statement QueuesStoreOrCountTheLoss). -/
def Obligations.FaultsAreCountedByTheirClass : Prop :=
  (∀ (c : FaultCode) (v : FaultValue) (s : State), s.rep.faults.length = 23 →
      let time := BitVec.ofNat 32 (s.clock / 4000)
      let old := s.rep.record c
      let lossOld := s.rep.record .queueLoss
      let new : FaultRecord :=
        { old with
          count := min 65535 (old.count + 1), first := if old.count = 0 then some s.pos else old.first
          last := some s.pos, value := some v }
      (c.class = .notice →
          s.raise c v = { s with rep := { s.rep with faults := s.rep.faults.set (c.number - 1) new } })
        ∧ (c.class = .degrading →
            let marked := if s.span.opened.isSome then old.spanMark else old.runMark
            (marked = true →
                s.raise c v =
                  { s with
                    rep := { s.rep with faults := s.rep.faults.set (c.number - 1) new, faultCause := true } })
              ∧ (marked = false → s.rep.events.items.length < 64 →
                  s.raise c v =
                    { s with
                      rep := { s.rep with
                               faultCause := true
                               faults := s.rep.faults.set (c.number - 1)
                                 { new with spanMark := old.spanMark || s.span.opened.isSome, runMark := true }
                               events := { items := s.rep.events.items ++
                                             [{ seq := s.rep.events.seq + 1, gap := s.rep.events.lost, position := s.pos,
                                                time := time, body := .fault c v (min 65535 (old.count + 1)) }]
                                           seq := s.rep.events.seq + 1, lastStored := s.rep.events.seq + 1
                                           lost := 0 } } })
              ∧ (marked = false → 64 ≤ s.rep.events.items.length →
                  s.raise c v =
                    { s with
                      rep := { s.rep with
                               faultCause := true, lossCause := true
                               faults := (s.rep.faults.set (c.number - 1)
                                   { new with spanMark := old.spanMark || s.span.opened.isSome, runMark := true }).set 18
                                 { lossOld with
                                   count := min 65535 (lossOld.count + 1)
                                   first := if lossOld.count = 0 then some s.pos else lossOld.first
                                   last := some s.pos
                                   value := some { qualifier := 1, number := (s.rep.events.seq + 1).toNat } }
                               events := { s.rep.events with
                                           seq := s.rep.events.seq + 1, lost := s.rep.events.lost + 1 } } }))
        ∧ (c.class = .halting → s.run.state = .stopped ∨ s.run.state = .faulted →
            s.raiseHalting c v = { s with rep := { s.rep with faults := s.rep.faults.set (c.number - 1) new } })
        ∧ (c.class = .halting → s.run.state = .armed ∨ s.run.state = .measuring ∨ s.run.state = .paused →
            let number := s.span.opened.map fun _ => s.span.seq + 1
            let cut := s.expo.state = .arming ∨ s.expo.state = .window
            let guarded := cut ∧ s.cfg.exposure.quiet = true
            let kinds (m : Monitors) : List (MonitorKind × Option Monitor) :=
              [(.stagger, m.stagger), (.heightLow, m.heightLow), (.wear, m.wear)]
            let closes (k : Slot) : List EventBody := (kinds (s.span.monitors.get k)).filterMap fun p =>
              p.2.map fun m => .excClose p.1 k m.wireId .runEnd m.openPos m.peak m.peakPos (max 0 (s.pos - m.openPos))
            let said (r : Report) (b : EventBody) : Report := r.produce s.pos time s.pos b
            let faulted : Report := said
              { s.rep with faults := s.rep.faults.set (c.number - 1) new, faultCause := true }
              (.fault c v (min 65535 (old.count + 1)))
            let stored : Report := match s.span.opened with
              | none => faulted
              | some o =>
                let r := match s.span.provisional with
                  | some p => mergeSpans o p
                  | none => o
                faulted.storeSpan s.pos
                  { r with
                    seq := s.span.seq + 1, stop := max s.pos o.start, reason := .fault, closeSource := .none
                    summaries := r.summaries.map fun y =>
                      { y with presentAtClose := inView s.span.view y.wireId, sAtClose := none } }
            let shown (t : Track) (l : LiveTrack) : LiveTrack :=
              if t.state = .free then l
              else { state := .free, wireId := 0, stagger := 0, height := 0, wear := none, lastHit := 0, peak := none
                     indication := none, mergedWith := none, fresh := true }
            s.raiseHalting c v =
              { s with
                run := { state := .faulted, number := s.run.number, cause := some .haltingFault, causeFault := some c }
                rep := { said ((closes .n0 ++ closes .n1 ++ closes .n2 ++ closes .n3).foldl said stored)
                           (.runState s.run.state .faulted .haltingFault s.run.number (some c) number none) with
                         runCause := true }
                span := { SpanBuilder.initial with seq := number.getD s.span.seq }
                trk := { s.trk with tracks := Four.const .empty }, table := []
                live := { s.live with
                  tracks := ⟨shown s.trk.tracks.e0 s.live.tracks.e0, shown s.trk.tracks.e1 s.live.tracks.e1,
                             shown s.trk.tracks.e2 s.live.tracks.e2, shown s.trk.tracks.e3 s.live.tracks.e3⟩ }
                expo := { s.expo with
                  state := if cut then .ready else s.expo.state, burst := if cut then none else s.expo.burst
                  stuckDue := if cut then none else s.expo.stuckDue, expSync := if cut then false else s.expo.expSync
                  lasDrv := if cut then false else s.expo.lasDrv, ack := none
                  guardDue := if guarded then
                      (if s.cfg.exposure.chargeGuard = 0 then none else some (s.clock + 4 * s.cfg.exposure.chargeGuard))
                    else s.expo.guardDue
                  chgEn := s.expo.chgEn || (decide guarded && decide (s.cfg.exposure.chargeGuard = 0)) } })
        ∧ (let after := if c.class = .halting then s.raiseHalting c v else s.raise c v
           let now := after.rep.record c
           now.count = new.count ∧ now.first = new.first ∧ now.last = new.last ∧ now.value = new.value))
    ∧ ∀ c : FaultCode, (c.class = .halting ↔ c = .headsLost ∨ c = .odoLost)
        ∧ (c.class = .notice ↔ c = .headLate ∨ c = .headFrame ∨ c = .returnsTruncated ∨ c = .triggerOverrun
            ∨ c = .odoPhase ∨ c = .trackSlotsFull ∨ c = .queueLoss ∨ c = .linkFrame ∨ c = .linkOverrun)

/-- R148, R151: a closed record and an event are stored with their gap while there is room; otherwise each is lost, the
lost count and the QUEUE_LOSS record rise, and the QUEUE_LOSS cause is set. The record's coding, SPAN 0 and EVENT 1 with
the lost number, is the model's (log entry 16). -/
def Obligations.QueuesStoreOrCountTheLoss : Prop :=
  ∀ (pos at_ : Int) (time : Word32) (body : EventBody) (rec : SpanRec) (r : Report), r.faults.length = 23 →
    let lossRecord (v : FaultValue) : FaultRecord :=
      { r.record .queueLoss with
        count := min 65535 ((r.record .queueLoss).count + 1)
        first := if (r.record .queueLoss).count = 0 then some pos else (r.record .queueLoss).first
        last := some pos, value := some v }
    (r.spans.items.length < 32 → r.storeSpan pos rec =
        { r with
          spans := { r.spans with
                     items := r.spans.items ++ [{ rec with gap := r.spans.lost }], lastStored := rec.seq, lost := 0 } })
      ∧ (32 ≤ r.spans.items.length → r.storeSpan pos rec =
          { r with
            spans := { r.spans with lost := r.spans.lost + 1 }, lossCause := true
            faults := r.faults.set 18 (lossRecord { qualifier := 0, number := rec.seq.toNat }) })
      ∧ (r.events.items.length < 64 → r.produce pos time at_ body =
          { r with
            events := { items := r.events.items ++
                          [{ seq := r.events.seq + 1, gap := r.events.lost, position := at_, time := time, body := body }]
                        seq := r.events.seq + 1, lastStored := r.events.seq + 1, lost := 0 } })
      ∧ (64 ≤ r.events.items.length → r.produce pos time at_ body =
          { r with
            events := { r.events with seq := r.events.seq + 1, lost := r.events.lost + 1 }, lossCause := true
            faults := r.faults.set 18 (lossRecord { qualifier := 1, number := (r.events.seq + 1).toNat }) })

/-! ### Resets and start-up -/

/-- R160, R167, R177: the power-on reset gives every block its reset values, the bit rate that the straps select and the
start-up. The non-volatile block is kept; a store that was in progress leaves the new contents when its write had
completed, which the command's operand says (log entry 28), and otherwise a block that fails its check (log entry 8). The
model's choices at a reset: the working copy and its status until the load (log entry 7), the waiting commands and the
free count, which stay (log entries 1, 8, 27), and the values that no rule gives (log entry 5). -/
def Obligations.PowerOnResetStartsUp : Prop :=
  ∀ (pins : PinLevels) (written : Bool) (s : State),
    let rate := match pins.rate1, pins.rate0 with
      | false, false => 115200
      | false, true => 460800
      | true, false => 921600
      | true, true => 1843200
    let begun (block : List Byte) : State :=
      { State.reset with
        pins := pins, pending := s.pending, link := { State.reset.link with rate := rate }
        cal := { State.reset.cal with block := block } }
    (s.cal.storing = false →
        exec (.powerOnReset pins written) s = .next { begun s.cal.block with free := s.free })
      ∧ (s.cal.storing = true → written = true →
          exec (.powerOnReset pins written) s = .next { begun (calImage s.cal.work) with free := s.free + 1 })
      ∧ (s.cal.storing = true → written = false → ∃ torn : List Byte,
          exec (.powerOnReset pins written) s = .next { begun torn with free := s.free + 1 }
            ∧ torn.length = 63 ∧ ∀ f : CalFields, checkBlock torn ≠ .passes f)

/-- R167, R174: the end of the load checks the block, sets the working copy and the status, makes the READY_REPORT pending
and opens request handling. Outside STARTING there is no load to end (log entry 3). The layout of the READY_REPORT is log
entry 15, the coding of CAL_INVALID, CRC 0 and FIELD 1 with the index, log entry 16. -/
def Obligations.CalLoadOpensTheLink : Prop :=
  ∀ s : State,
    let loaded (work : CalFields) (valid : Bool) : State :=
      { s with
        cal := { s.cal with work := work, valid := valid, modified := false, storing := false, lastResult := .none } }
    let opened (t : State) : State :=
      { t with link := { t.link with readyPending := true, handling := .openForRequests, receiver := .hunting } }
    (s.link.handling = .starting →
        (∀ f : CalFields, f.inRange → s.cal.block = f.payload ++ toBytes 4 (crc32 f.payload).toNat →
            exec .calLoadDone s = .next (opened (loaded f true)).settle)
          ∧ (s.cal.block.drop 59 ≠ toBytes 4 (crc32 (s.cal.block.take 59)).toNat →
              exec .calLoadDone s =
                .next (opened (State.raise .calInvalid { qualifier := 0, number := 0 } (loaded .initial false))).settle)
          ∧ (∀ (f : List Byte) (i : Nat), f.length = 59 → s.cal.block = f ++ toBytes 4 (crc32 f).toNat →
              firstFails 0 (calRanges f) i →
              exec .calLoadDone s =
                .next (opened (State.raise .calInvalid { qualifier := 1, number := i } (loaded .initial false))).settle)
          ∧ (s.link.tx = none → ∃ t : State, exec .calLoadDone s = .next t ∧ t.link.readyPending = false
              ∧ t.link.tx = some
                  { kind := 0x60
                    payload := toBytes 1 s.link.resetKind.code ++ [0xAE, 0x01, 1] ++ toBytes 4 s.link.rate
                      ++ [if t.cal.valid then 0 else 1] }))
      ∧ (s.link.handling ≠ .starting → exec .calLoadDone s = .next s.settle)

/-- R172: RESET_PART is accepted and closes the link. Once the reply has left, the soft reset restores every block and
keeps the pins, the bit rate and the non-volatile block; an ARM frame in transmission is sent to its end first, and the
reset then takes place before a window can open (log entry 31). The waiting commands and the free count stay (log entry
27), and the working copy and its status until the load are log entry 7. While the reply still waits for the end of a
report, the end of that report only frees the transmitter for it. -/
def Obligations.ResetPartResetsAfterItsReply : Prop :=
  ∀ s : State,
    let restarted : State :=
      { State.reset with
        pins := s.pins, pending := s.pending, free := s.free
        link := { State.reset.link with rate := s.link.rate, resetKind := .soft }
        cal := { State.reset.cal with block := s.cal.block } }
    (s.takesRequests → exec (.resetPart []) s =
        .next (State.settle
          { s.answered 0x93 [0] with link := { (s.answered 0x93 [0]).link with handling := .closing } }))
      ∧ (∀ f g : Frame, s.link.handling = .closing → s.link.slot = some g → s.link.tx = some f →
          (f.kind ≠ 0x62 → exec .hostTxFrameDone s = .next (State.settle { s with link := { s.link with tx := none } }))
            ∧ (f.kind = 0x62 → s.rep.spans.inFlight = true → exec .hostTxFrameDone s =
                .next (State.settle
                  { s with
                    link := { s.link with tx := none }
                    rep := { s.rep with
                             spans := { s.rep.spans with items := s.rep.spans.items.drop 1, inFlight := false } } })))
      ∧ (∀ f : Frame, s.link.handling = .closing → s.link.slot = none → s.link.tx = some f → f.kind ≠ 0x62 →
          (s.heads.a.arm = none → s.heads.b.arm = none → exec .hostTxFrameDone s = .next restarted)
            ∧ (s.heads.a.arm ≠ none ∨ s.heads.b.arm ≠ none → exec .hostTxFrameDone s =
                .next (State.settle { s with link := { s.link with tx := none, resetDue := true } })))
      ∧ (∀ (h : Head) (f : ArmFrame), s.link.resetDue = true → (s.heads.get h).arm = some f →
          (∀ g : Head, g ≠ h → (s.heads.get g).arm = none) → exec (.armFrameSent h) s = .next restarted)

/-! ### The host link -/

/-- R163, R167: a whole host frame is not received while the part starts up, is discarded in CLOSING, and is discarded
with LINK_OVERRUN while a request is held or the reply slot is occupied. Its value, the kind as the number, is log entry
16; the level of RSV_RDY that a discarded EXPOSE_ONCE finds is log entry 4. -/
def Obligations.FramesOutsideOpenAreDiscarded : Prop :=
  ∀ (c : Instr) (f : Frame) (s : State), frameOfRequest c = some f →
    (s.link.handling = .starting → exec c s = .next (c.sampled s).settle)
      ∧ (s.link.handling = .closing → exec c s = .next (c.sampled s).discarded.settle)
      ∧ (s.link.handling = .heldForStop ∨ s.link.handling = .heldForTemperature
            ∨ (s.link.handling = .openForRequests ∧ s.link.slot ≠ none) →
          exec c s = .next (State.settle
            (State.raise .linkOverrun { qualifier := 0, number := f.kind.toNat } (c.sampled s).discarded)))

/-- R164, R177 and the rules that name a request's run states: a taken request is checked for its length, then for a store
in progress (not STATUS), then for its run state, and the first that fails is its whole effect but for its reply. A frame
of a kind that no request has is answered UNKNOWN_REQUEST; its reply's kind wraps in its byte (log entry 38). A SET_GROUP
that names no group is answered BAD_LENGTH when empty, BUSY during a store and BAD_VALUE with index 0 otherwise (log entry
23). -/
def Obligations.RequestsAreRefusedInTheirOrder : Prop :=
  (∀ (c : Instr) (f : Frame) (n : Nat) (s : State), frameOfRequest c = some f → c.requestLength = some n →
      s.link.handling = .openForRequests → s.link.slot = none →
        (c.operandBytes.length ≠ n → exec c s = .next ((c.sampled s).answered (f.kind + 0x80) [4]).settle)
          ∧ (c.operandBytes.length = n → s.cal.storing = true → (∀ p : List Byte, c ≠ .status p) →
              exec c s = .next ((c.sampled s).answered (f.kind + 0x80) [6]).settle)
          ∧ (c.operandBytes.length = n → s.cal.storing = false → ¬ c.takenIn s →
              exec c s = .next ((c.sampled s).answered (f.kind + 0x80) [2]).settle))
    ∧ ∀ (k : Byte) (p : List Byte) (s : State), s.link.handling = .openForRequests → s.link.slot = none →
        (k ≠ 0x03 → exec (.unknownRequest k p) s = .next (s.answered (k + 0x80) [5]).settle)
          ∧ (k = 0x03 → p = [] → exec (.unknownRequest k p) s = .next (s.answered 0x83 [4]).settle)
          ∧ (k = 0x03 → p ≠ [] → s.cal.storing = true → exec (.unknownRequest k p) s = .next (s.answered 0x83 [6]).settle)
          ∧ (k = 0x03 → p ≠ [] → s.cal.storing = false →
              exec (.unknownRequest k p) s = .next (s.answered 0x83 [3, 0]).settle)

/-- R168: IDENTIFY answers with vendor code 0x0A17, part code 430, revision 1, the bit rate and the capacities. R169,
R177: STATUS answers in OPEN, during a store as at any other time. Neither changes anything else. The layouts of both
replies are the model's where spec 12 leaves them open (log entries 15, 39). -/
def Obligations.IdentifyAndStatusAnswer : Prop :=
  (∀ s : State, s.takesRequests →
     exec (.identify []) s =
       .next (s.answered 0x81
         ([0, 0x17, 0x0A, 0xAE, 0x01, 1] ++ toBytes 4 s.link.rate ++ [4, 4, 32, 64, 8, 6, 0, 4])).settle)
    ∧ ∀ s : State, s.link.handling = .openForRequests → s.link.slot = none →
        let total (cls : FaultClass) : Nat :=
          ((FaultCode.all.filter fun c => c.class = cls).map fun c => (s.rep.record c).count).sum
        s.rep.faults.length = 23 →
        exec (.status []) s =
          .next (s.answered 0x82
            ((0 : Byte) :: toBytes 1 s.run.state.code ++ toBytes 2 s.run.number
              ++ [maskByte [s.run.cause.isSome, s.run.causeFault.isSome]]
              ++ u8 (s.run.cause.elim 0 RunCause.code)
              ++ u8 (s.run.causeFault.elim 0 FaultCode.number) ++ [flagByte s.mark.zone]
              ++ toBytes 4 s.pos ++ toBytes 4 s.odo.furthest ++ toBytes 4 s.odo.speed ++ toBytes 1 s.odo.direction.code
              ++ toBytes 1 s.odo.phaseLevel
              ++ toBytes 1 s.expo.state.code ++ toBytes 4 s.expo.counter.toNat ++ toBytes 4 s.expo.skipped
              ++ [flagByte s.cfg.stagedExposure.isSome, flagByte s.cfg.stagedLine.isSome]
              ++ [flagByte (!s.heads.a.live)] ++ toBytes 1 s.heads.a.silence
              ++ [flagByte (!s.heads.b.live)] ++ toBytes 1 s.heads.b.silence
              ++ toBytes 2 (s.att.beam.getD s.cal.work.t0) ++ [flagByte s.att.held]
              ++ toBytes 1 s.rep.spans.items.length
              ++ toBytes 1 (if s.rep.spans.inFlight then s.rep.spans.items.length - 1 else s.rep.spans.items.length : Nat)
              ++ [flagByte s.rep.spans.inFlight] ++ toBytes 1 s.rep.events.items.length
              ++ [maskByte [decide (s.cfg.reporting.spanMark ≤ s.rep.spans.available), decide (s.rep.events.items ≠ []),
                    s.rep.lossCause, s.rep.faultCause, s.rep.runCause]]
              ++ [flagByte s.rep.attn]
              ++ toBytes 4 (total .notice) ++ toBytes 4 (total .degrading) ++ toBytes 4 (total .halting)
              ++ toBytes 2 s.link.errGap ++ toBytes 2 s.link.errLength ++ toBytes 2 s.link.errByte
              ++ toBytes 2 s.link.errCrc
              ++ [flagByte (!s.cal.valid), flagByte s.cal.modified, flagByte s.cal.storing]
              ++ toBytes 1 s.cal.lastResult.code)).settle

/-- R162: a frame abandoned or failing its CRC-16 raises its counter, which stops at 65,535, and LINK_FRAME with the
reason; the receiver hunts; the reasons GAP 0, LENGTH 1, BYTE_ERROR 2 and CRC 3 are log entry 16. With no frame being
received there is nothing to abandon (log entry 9). A preamble is followed in every condition but STARTING. -/
def Obligations.HostReceiveErrorsAreCounted : Prop :=
  ∀ s : State,
    (s.link.receiver = .inFrame → s.link.handling ≠ .starting →
        exec .hostByteGapTimeout s = .next (State.settle (State.raise .linkFrame { qualifier := 0, number := 0 }
            { s with link := { s.link with receiver := .hunting, errGap := min 65535 (s.link.errGap + 1) } }))
          ∧ exec (.hostFrameError .length) s = .next (State.settle (State.raise .linkFrame { qualifier := 1, number := 0 }
              { s with link := { s.link with receiver := .hunting, errLength := min 65535 (s.link.errLength + 1) } }))
          ∧ exec (.hostFrameError .byteError) s =
              .next (State.settle (State.raise .linkFrame { qualifier := 2, number := 0 }
                { s with link := { s.link with receiver := .hunting, errByte := min 65535 (s.link.errByte + 1) } }))
          ∧ exec (.hostFrameError .crc) s = .next (State.settle (State.raise .linkFrame { qualifier := 3, number := 0 }
              { s with link := { s.link with receiver := .hunting, errCrc := min 65535 (s.link.errCrc + 1) } })))
      ∧ (s.link.receiver = .hunting ∨ s.link.handling = .starting →
          exec .hostByteGapTimeout s = .next s.settle ∧ ∀ r : HostFrameFault, exec (.hostFrameError r) s = .next s.settle)
      ∧ (s.link.handling ≠ .starting →
          exec .hostRxPreamble s = .next (State.settle { s with link := { s.link with receiver := .inFrame } }))
      ∧ (s.link.handling = .starting → exec .hostRxPreamble s = .next s.settle)

/-- R149, R166: the end of a frame frees the transmitter; the end of a SPAN_REPORT takes the in-flight record out of the
queue and clears its mark. With no frame in transmission there is none to end (log entry 3). In CLOSING see statement
ResetPartResetsAfterItsReply. -/
def Obligations.FrameEndsFreeTheTransmitter : Prop :=
  ∀ s : State,
    (s.link.tx = none → exec .hostTxFrameDone s = .next s.settle)
      ∧ ∀ f : Frame, s.link.tx = some f → s.link.handling ≠ .closing →
          (f.kind = 0x62 → s.rep.spans.inFlight = true → exec .hostTxFrameDone s =
              .next (State.settle
                { s with
                  link := { s.link with tx := none }
                  rep := { s.rep with
                           spans := { s.rep.spans with items := s.rep.spans.items.drop 1, inFlight := false } } }))
            ∧ (f.kind ≠ 0x62 → exec .hostTxFrameDone s =
                .next (State.settle { s with link := { s.link with tx := none } }))

/-- R149, R153, R158, R166, R167: what ends a command (log entry 12). An idle transmitter takes the READY_REPORT, else the
reply, else with streaming on an EVENT_REPORT of the events that fit, else a SPAN_REPORT of the oldest record while none
is in flight; in CLOSING the reply alone and in STARTING nothing. Then ATTN_N follows its causes. Nothing else changes. -/
def Obligations.ArbiterChoosesInOrder : Prop :=
  ∀ s : State,
    let busy := s.link.tx ≠ none
    let serving := s.link.handling ≠ .starting ∧ s.link.handling ≠ .closing
    let reports := serving ∧ s.link.readyPending = false ∧ s.link.slot = none ∧ s.cfg.reporting.streaming = true
    (∃ (link : Link) (items : List Event) (flying attn : Bool),
        s.settle = { s with
                     link := link
                     rep := { s.rep with
                              events := { s.rep.events with items := items }
                              spans := { s.rep.spans with inFlight := flying }, attn := attn } })
      ∧ s.settle.attnFollows
      ∧ (busy ∨ s.link.handling = .starting → s.settle.link = s.link ∧ s.settle.rep.events = s.rep.events
          ∧ s.settle.rep.spans = s.rep.spans)
      ∧ (¬ busy → serving → s.link.readyPending = true →
          s.settle.link = { s.link with readyPending := false, tx := some (readyReport s) }
            ∧ s.settle.rep.events = s.rep.events ∧ s.settle.rep.spans = s.rep.spans)
      ∧ (∀ f : Frame, ¬ busy → (serving ∧ s.link.readyPending = false) ∨ s.link.handling = .closing →
          s.link.slot = some f →
          s.settle.link = { s.link with slot := none, tx := some f }
            ∧ s.settle.rep.events = s.rep.events ∧ s.settle.rep.spans = s.rep.spans)
      ∧ (¬ busy → reports → s.rep.events.items ≠ [] → ∃ sent : List Event,
          sent ≠ [] ∧ s.rep.events.items = sent ++ s.settle.rep.events.items
            ∧ s.settle.link = { s.link with
                tx := some { kind := 0x61, payload := toBytes 1 sent.length ++ (sent.map Event.bytes).flatten } }
            ∧ s.settle.rep.spans = s.rep.spans
            ∧ (sent.map Event.size).sum ≤ 1023
            ∧ ∀ e : Event, s.settle.rep.events.items.head? = some e →
                sent.length = 64 ∨ 1023 < (sent.map Event.size).sum + e.size)
      ∧ (∀ (r : SpanRec) (rs : List SpanRec), ¬ busy → reports → s.rep.events.items = [] → s.rep.spans.items = r :: rs →
          s.rep.spans.inFlight = false →
          s.settle.link = { s.link with tx := some { kind := 0x62, payload := r.bytes } }
            ∧ s.settle.rep.events = s.rep.events ∧ s.settle.rep.spans = { s.rep.spans with inFlight := true })
      ∧ (¬ busy → (s.link.handling = .closing ∧ s.link.slot = none)
            ∨ (serving ∧ s.link.readyPending = false ∧ s.link.slot = none
              ∧ (s.cfg.reporting.streaming = false
                ∨ (s.rep.events.items = [] ∧ (s.rep.spans.items = [] ∨ s.rep.spans.inFlight = true)))) →
          s.settle.link = s.link ∧ s.settle.rep.events = s.rep.events ∧ s.settle.rep.spans = s.rep.spans)

/-! ### Configuration groups (R38, R40, R49, R58, R89, R113, R114, R154, R165, R170, R171)

For each group: a set within its ranges and relations becomes the active set, or the staged one, and any other payload of
the group's length is refused BAD_VALUE with the index of the first field out of range, counted from the group code at 0,
or with every field in range that of the later field of the relation that fails (log entry 14), and changes nothing. -/

/-- R38, R113, R165, R170: an EXPOSURE and a LINE set become active in STOPPED, discarding a staged one, and are staged in
the other run states. The stuck window is field 8 of EXPOSURE and the span maximum field 8 of LINE. -/
def Obligations.ExposureAndLineSetsAreTakenOrStaged : Prop :=
  ∀ s : State, s.takesRequests →
    (∀ e : ExposureSet, e.inRange →
        (s.run.state = .stopped → exec (.setGroupExposure e.payload) s =
            .next (State.settle
              { s.answered 0x83 [0] with cfg := { s.cfg with exposure := e, stagedExposure := none } }))
          ∧ (s.run.state ≠ .stopped → exec (.setGroupExposure e.payload) s =
              .next (State.settle { s.answered 0x83 [1] with cfg := { s.cfg with stagedExposure := some e } })))
      ∧ (∀ b : List Byte, b.length = 17 → (∀ e : ExposureSet, e.inRange → b ≠ e.payload) →
          ∃ i : Nat, 1 ≤ i ∧ i ≤ 13
            ∧ failsAt 1 (exposureRanges b)
                (fieldNat b 6 1 < 2 * fieldNat b 10 2 ∧ fieldNat b 7 1 < 2 * fieldNat b 10 2) 8 i
            ∧ exec (.setGroupExposure b) s = .next (s.answered 0x83 [3, BitVec.ofNat 8 i]).settle)
      ∧ (∀ l : LineSet, l.inRange →
          (s.run.state = .stopped → exec (.setGroupLine l.payload) s =
              .next (State.settle { s.answered 0x83 [0] with cfg := { s.cfg with line := l, stagedLine := none } }))
            ∧ (s.run.state ≠ .stopped → exec (.setGroupLine l.payload) s =
                .next (State.settle { s.answered 0x83 [1] with cfg := { s.cfg with stagedLine := some l } })))
      ∧ ∀ b : List Byte, b.length = 14 → (∀ l : LineSet, l.inRange → b ≠ l.payload) →
          ∃ i : Nat, 1 ≤ i ∧ i ≤ 10 ∧ failsAt 1 (lineRanges b) (fieldNat b 9 1 < fieldNat b 10 1) 8 i
            ∧ exec (.setGroupLine b) s = .next (s.answered 0x83 [3, BitVec.ofNat 8 i]).settle

/-- R40, R49, R58, R89, R114, R165, R170: ODOMETRY, ATTITUDE, MARKERS, TRACKING and WIRE_TYPES in STOPPED. The maximum age
is field 2 of ATTITUDE and the upper limit of the height window field 11 of TRACKING. -/
def Obligations.SetsAreTakenInStopped : Prop :=
  ∀ s : State, s.takesRequests → s.run.state = .stopped →
    (∀ o : OdometrySet, o.inRange → exec (.setGroupOdometry o.payload) s =
        .next (State.settle { s.answered 0x83 [0] with cfg := { s.cfg with odometry := o } }))
      ∧ (∀ b : List Byte, b.length = 8 → (∀ o : OdometrySet, o.inRange → b ≠ o.payload) →
          ∃ i : Nat, 1 ≤ i ∧ i ≤ 4 ∧ firstFails 1 (odometryRanges b) i
            ∧ exec (.setGroupOdometry b) s = .next (s.answered 0x83 [3, BitVec.ofNat 8 i]).settle)
      ∧ (∀ a : AttitudeSet, a.inRange → exec (.setGroupAttitude a.payload) s =
          .next (State.settle { s.answered 0x83 [0] with cfg := { s.cfg with attitude := a } }))
      ∧ (∀ b : List Byte, b.length = 3 → (∀ a : AttitudeSet, a.inRange → b ≠ a.payload) →
          ∃ i : Nat, 1 ≤ i ∧ i ≤ 2
            ∧ failsAt 1 (attitudeRanges b) (8 * (4 * fieldNat b 0 2) ≤ 1000 * fieldNat b 2 1) 2 i
            ∧ exec (.setGroupAttitude b) s = .next (s.answered 0x83 [3, BitVec.ofNat 8 i]).settle)
      ∧ (∀ m : MarkerSet, m.inRange → exec (.setGroupMarkers m.payload) s =
          .next (State.settle { s.answered 0x83 [0] with cfg := { s.cfg with markers := m } }))
      ∧ (∀ b : List Byte, b.length = 15 → (∀ m : MarkerSet, m.inRange → b ≠ m.payload) →
          ∃ i : Nat, 1 ≤ i ∧ i ≤ 11 ∧ firstFails 1 (markerRanges b) i
            ∧ exec (.setGroupMarkers b) s = .next (s.answered 0x83 [3, BitVec.ofNat 8 i]).settle)
      ∧ (∀ t : TrackingSet, t.inRange → exec (.setGroupTracking t.payload) s =
          .next (State.settle { s.answered 0x83 [0] with cfg := { s.cfg with tracking := t } }))
      ∧ (∀ b : List Byte, b.length = 19 → (∀ t : TrackingSet, t.inRange → b ≠ t.payload) →
          ∃ i : Nat, 1 ≤ i ∧ i ≤ 13
            ∧ failsAt 1 (trackingRanges b) (fieldNat b 11 2 < fieldNat b 13 2) 11 i
            ∧ exec (.setGroupTracking b) s = .next (s.answered 0x83 [3, BitVec.ofNat 8 i]).settle)
      ∧ (∀ w : Four WireType, wireTypesInRange w → exec (.setGroupWireTypes (wireTypesPayload w)) s =
          .next (State.settle { s.answered 0x83 [0] with cfg := { s.cfg with wireTypes := w } }))
      ∧ ∀ b : List Byte, b.length = 24 → (∀ w : Four WireType, wireTypesInRange w → b ≠ wireTypesPayload w) →
          ∃ i : Nat, 1 ≤ i ∧ i ≤ 12
            ∧ firstFails 1
                (wireTypeRanges b 0 ++ wireTypeRanges b 6 ++ wireTypeRanges b 12 ++ wireTypeRanges b 18) i
            ∧ exec (.setGroupWireTypes b) s = .next (s.answered 0x83 [3, BitVec.ofNat 8 i]).settle

/-- R154, R165, R170: REPORTING in every run state. -/
def Obligations.ReportingSetIsTaken : Prop :=
  ∀ s : State, s.takesRequests →
    (∀ r : ReportingSet, r.inRange → exec (.setGroupReporting r.payload) s =
        .next (State.settle { s.answered 0x83 [0] with cfg := { s.cfg with reporting := r } }))
      ∧ ∀ b : List Byte, b.length = 3 → (∀ r : ReportingSet, r.inRange → b ≠ r.payload) →
          ∃ i : Nat, 1 ≤ i ∧ i ≤ 3 ∧ firstFails 1 (reportingRanges b) i
            ∧ exec (.setGroupReporting b) s = .next (s.answered 0x83 [3, BitVec.ofNat 8 i]).settle

/-- R171: GET_GROUP answers the group code and the active set as a host lays it out, for EXPOSURE and LINE with the staged
indication and the staged set, and changes nothing else; a code that names no group is BAD_VALUE. Zeros stand in a staged
set that is not held (log entry 15). -/
def Obligations.GetGroupAnswersTheSets : Prop :=
  ∀ s : State, s.takesRequests →
    let reply (bytes : List Byte) : Host.Outcome State Fault Refusal := .next (s.answered 0x84 bytes).settle
    exec (.getGroup [0]) s =
        reply ([0, 0] ++ s.cfg.exposure.payload ++ [flagByte s.cfg.stagedExposure.isSome]
          ++ (s.cfg.stagedExposure.elim (List.replicate 17 0) ExposureSet.payload))
      ∧ exec (.getGroup [1]) s = reply ([0, 1] ++ s.cfg.odometry.payload)
      ∧ exec (.getGroup [2]) s = reply ([0, 2] ++ s.cfg.attitude.payload)
      ∧ exec (.getGroup [3]) s = reply ([0, 3] ++ s.cfg.markers.payload)
      ∧ exec (.getGroup [4]) s = reply ([0, 4] ++ s.cfg.tracking.payload)
      ∧ exec (.getGroup [5]) s =
          reply ([0, 5] ++ s.cfg.line.payload ++ [flagByte s.cfg.stagedLine.isSome]
            ++ (s.cfg.stagedLine.elim (List.replicate 14 0) LineSet.payload))
      ∧ exec (.getGroup [6]) s = reply ([0, 6] ++ wireTypesPayload s.cfg.wireTypes)
      ∧ exec (.getGroup [7]) s = reply ([0, 7] ++ s.cfg.reporting.payload)
      ∧ ∀ g : Byte, 8 ≤ g.toNat → exec (.getGroup [g]) s = reply [3, 0]

/-! ### Runs (R46 to R48, R136 to R147) -/

/-- R137, R138 and the rules that R138's table names: START_RUN in STOPPED. Its RUN_STATE event is stamped with the
position held before (log entry 17). The one value that four bytes hold beyond the range is refused. -/
def Obligations.StartRunStartsEveryBlock : Prop :=
  ∀ (s : State) (start : Int), s.takesRequests → s.run.state = .stopped → s.run.number ≤ 65535 →
    within (-2147483647) 2147483647 start →
    let n := if s.run.number = 65535 then 1 else s.run.number + 1
    let produced := s.rep.produce s.pos (BitVec.ofNat 32 (s.clock / 4000)) s.pos
      (.runState .stopped .armed .startRun n none none none)
    exec (.startRun (toBytes 4 start)) s =
        .next (State.settle
          { s with
            link := { s.link with receiver := .hunting, slot := some { kind := 0x85, payload := 0 :: toBytes 2 n } }
            run := { state := .armed, number := n, cause := some .startRun, causeFault := none }
            odo := { s.odo with
                     acc := start * 1000000, history := List.replicate 10 (start * 1000000), furthest := start
                     backTravel := false, phaseLevel := 0 }
            expo := { s.expo with
                      counter := 0, skipped := 0, gridBase := start
                      periodDue := some (s.clock + 4000 * s.cfg.exposure.period), chgEn := true }
            mark := { channels := s.mark.channels.map fun c =>
                        { c with state := if c.filter.accepted = some true then .held else .idle }
                      mast := { state := .idle, candidate := 0, source := .none }, zone := false }
            trk := { tracks := Four.const .empty, nextId := 1, lastScan := start }
            span := { SpanBuilder.initial with seq := s.span.seq }
            rep := { produced with
                     faults := produced.faults.map fun r => { r with spanMark := false, runMark := false } } })
      ∧ exec (.startRun [0x00, 0x00, 0x00, 0x80]) s = .next (s.answered 0x85 [3, 0]).settle

/-- R37, R38, R52, R112, R113, R129, R133, R139, R140, R146, R183: STOP_RUN in every other run state. The open span,
joined by a provisional one, closes RUN_END; the open monitors close RUN_END; RUN_STATE follows; each is stored or lost
(statement QueuesStoreOrCountTheLoss). The RUN_STATE cause stays as it was. A live slot 4..7 whose track was not FREE
shows FREE. The reply, in the model's layout (log entry 15), is built at once unless a blank-out runs, and is held for its
end then. -/
def Obligations.StopRunEndsEveryBlock : Prop :=
  ∀ s : State, s.takesRequests → s.run.state ≠ .stopped →
    let number := s.span.opened.map fun _ => s.span.seq + 1
    let cut := s.expo.state = .arming ∨ s.expo.state = .window
    let time := BitVec.ofNat 32 (s.clock / 4000)
    let kinds (m : Monitors) : List (MonitorKind × Option Monitor) :=
      [(.stagger, m.stagger), (.heightLow, m.heightLow), (.wear, m.wear)]
    let closes (k : Slot) : List EventBody := (kinds (s.span.monitors.get k)).filterMap fun p =>
      p.2.map fun m => .excClose p.1 k m.wireId .runEnd m.openPos m.peak m.peakPos (max 0 (s.pos - m.openPos))
    let said (r : Report) : Report :=
      let t := ((closes .n0 ++ closes .n1 ++ closes .n2 ++ closes .n3).foldl (fun q b => q.produce s.pos time s.pos b) r)
        |>.produce s.pos time s.pos (.runState s.run.state .stopped .stopRun s.run.number none number none)
      { t with faults := t.faults.map fun f => { f with spanMark := false, runMark := false } }
    let shown (t : Track) (l : LiveTrack) : LiveTrack :=
      if t.state = .free then l
      else { state := .free, wireId := 0, stagger := 0, height := 0, wear := none, lastHit := 0, peak := none
             indication := none, mergedWith := none, fresh := true }
    ∃ u : State, exec (.stopRun []) s = .next u.settle
      ∧ u.run = { state := .stopped, number := s.run.number, cause := some .stopRun, causeFault := none }
      ∧ u.cfg = { s.cfg with
          exposure := s.cfg.stagedExposure.getD s.cfg.exposure, stagedExposure := none
          line := s.cfg.stagedLine.getD s.cfg.line, stagedLine := none }
      ∧ u.table = [] ∧ u.trk = { s.trk with tracks := Four.const .empty }
      ∧ u.expo = { s.expo with
          state := if cut then .ready else s.expo.state, burst := if cut then none else s.expo.burst
          stuckDue := if cut then none else s.expo.stuckDue, expSync := if cut then false else s.expo.expSync
          lasDrv := if cut then false else s.expo.lasDrv, ack := none, periodDue := none, guardDue := none
          chgEn := false }
      ∧ u.mark = { s.mark with
          channels := s.mark.channels.map fun c => { c with state := .idle }
          mast := { state := .idle, candidate := 0, source := .none } }
      ∧ u.span = { SpanBuilder.initial with seq := number.getD s.span.seq }
      ∧ (s.span.opened = none → u.rep = said s.rep)
      ∧ (∀ o : SpanRec, s.span.opened = some o → ∃ r : SpanRec, u.rep = said (s.rep.storeSpan s.pos r)
          ∧ r.seq = s.span.seq + 1 ∧ r.run = o.run ∧ r.start = o.start
          ∧ r.stop = (if s.pos < o.start then o.start else s.pos) ∧ r.reason = .runEnd ∧ r.closeSource = .none)
      ∧ u.rep.runCause = s.rep.runCause
      ∧ (s.expo.state ≠ .blank → u.link = { s.link with
          receiver := .hunting
          slot := some { kind := 0x86
                         payload := 0 :: toBytes 2 s.run.number ++ [flagByte s.span.opened.isSome]
                           ++ toBytes 4 (number.getD 0).toNat } })
      ∧ (s.expo.state = .blank → u.link = { s.link with
          receiver := .hunting, handling := .heldForStop, stopClosed := number })
      ∧ u.live = { s.live with
          tracks := ⟨shown s.trk.tracks.e0 s.live.tracks.e0, shown s.trk.tracks.e1 s.live.tracks.e1,
                     shown s.trk.tracks.e2 s.live.tracks.e2, shown s.trk.tracks.e3 s.live.tracks.e3⟩ }
      ∧ u.clock = s.clock ∧ u.free = s.free ∧ u.pins = s.pins ∧ u.heads = s.heads ∧ u.odo = s.odo ∧ u.att = s.att
      ∧ u.cal = s.cal

/-! ### The odometer (R41 to R47, R142 to R144) -/

/-- R41, R42, R43: a valid edge changes its line's level and moves the accumulator by the nm per count, forward along the
cycle 00, 10, 11, 01 under the normal sense and orientation, holding the end value of 64 bits. When the position stays, or
in STOPPED, nothing else happens; a change of position goes to the odometer's own checks, the grid, the marker channels
and the span maximum, in that order (log entry 10). R21 to R23: in DISTANCE mode in ARMED and MEASURING, a rise to or
beyond the next grid point moves the grid base to the highest grid point reached; each point passed over is a skip with
TRIGGER_OVERRUN GRID_PASSED, coded 2 (log entry 16), before that point's trigger (log entry 11). -/
def Obligations.EncoderEdgesMoveTheAccumulator : Prop :=
  (∀ (line : EncoderLine) (ready : Bool) (s : State),
      let up : Bool := match line with
        | .encA => s.pins.encA == s.pins.encB
        | .encB => s.pins.encA != s.pins.encB
      let forward := (up ^^ s.cfg.odometry.inverted) ^^ s.cfg.odometry.reversed
      let moved : Int := if forward then s.odo.acc + s.cfg.odometry.nmPerCount else s.odo.acc - s.cfg.odometry.nmPerCount
      let t : State :=
        { s with
          pins := { s.pins with
                    encA := if line = .encA then !s.pins.encA else s.pins.encA
                    encB := if line = .encB then !s.pins.encB else s.pins.encB, rsvRdy := ready }
          odo := { s.odo with acc := max (-9223372036854775808) (min 9223372036854775807 moved) } }
      (t.pos = s.pos ∨ s.run.state = .stopped → exec (.encoderValidEdge line ready) s = .next t.settle)
        ∧ (t.pos ≠ s.pos → exec (.encoderValidEdge line ready) s =
            .next (((t.checkTravel.advanceGrid s.pos).checkChannels).checkSpanMaximum).settle)
        ∧ ∃ v : State, exec (.encoderValidEdge line ready) s = .next v ∧ v.odo.acc = t.odo.acc ∧ v.pins = t.pins
            ∧ v.odo.history = s.odo.history ∧ v.odo.speed = s.odo.speed ∧ v.odo.direction = s.odo.direction
            ∧ v.odo.phaseLevel = s.odo.phaseLevel ∧ v.att = s.att ∧ v.cal = s.cal ∧ v.clock = s.clock)
    ∧ ∀ (old : Int) (s : State),
        let pitch : Int := s.cfg.exposure.pitch
        let rises := (s.run.state = .armed ∨ s.run.state = .measuring) ∧ s.cfg.exposure.mode = .distance ∧ old < s.pos
        (¬ (rises ∧ s.expo.gridBase + pitch ≤ s.pos) → s.advanceGrid old = s)
          ∧ ∀ k : Nat, rises → s.expo.gridBase + (k + 1) * pitch ≤ s.pos → s.pos < s.expo.gridBase + (k + 2) * pitch →
              s.advanceGrid old =
                State.trigger (Nat.iterate (State.skippedOnce .triggerOverrun { qualifier := 2, number := 0 }) k
                  { s with expo := { s.expo with gridBase := s.expo.gridBase + (k + 1) * pitch } })

/-- R46, R47, R112, R129, R142, R143, R146: a valid edge that takes the position below the furthest position less the
reverse distance pauses a run that is ARMED or MEASURING, and the edge that brings it back to the furthest position arms
it again. R125, R128: the Odometer Interface's checks at a change of position, whole: at a pause the open span, joined by
a provisional one, closes REVERSE at the furthest position, the open monitors close RUN_END, and RUN_STATE carries the
closed span and the furthest position; at a resumption RUN_STATE carries the furthest position. Each event is stored or
lost (statement QueuesStoreOrCountTheLoss). -/
def Obligations.TravelPausesAndResumesTheRun : Prop :=
  (∀ (line : EncoderLine) (ready : Bool) (s t : State), exec (.encoderValidEdge line ready) s = .next t → t.pos ≠ s.pos →
    (s.run.state = .armed ∨ s.run.state = .measuring → s.odo.backTravel = false →
        t.pos < s.odo.furthest - (s.cfg.odometry.reverseDistance : Int) →
        t.run = { state := .paused, number := s.run.number, cause := some .reverse, causeFault := none }
          ∧ t.odo.backTravel = true ∧ t.odo.furthest = s.odo.furthest ∧ t.trk = { s.trk with tracks := Four.const .empty }
          ∧ t.span.opened = none ∧ t.span.candidate = none ∧ t.table = s.table ∧ t.expo = s.expo
          ∧ t.rep.runCause = true
          ∧ (s.span.opened = none → t.rep.spans.items = s.rep.spans.items)
          ∧ ∀ o : SpanRec, s.span.opened = some o → s.rep.spans.items.length < 32 → ∃ r : SpanRec,
              t.rep.spans.items = s.rep.spans.items ++ [r] ∧ r.seq = s.span.seq + 1 ∧ r.start = o.start
                ∧ r.stop = s.odo.furthest ∧ r.reason = .reverse)
      ∧ (s.run.state = .paused → s.odo.backTravel = true → s.span.candidate = none → s.odo.furthest ≤ t.pos →
          t.run = { state := .armed, number := s.run.number, cause := some .forwardResumed, causeFault := none }
            ∧ t.odo.backTravel = false ∧ t.odo.furthest = t.pos ∧ t.rep.runCause = true)
      ∧ (s.run.state = .faulted → s.odo.backTravel = false →
          t.pos < s.odo.furthest - (s.cfg.odometry.reverseDistance : Int) →
          t.run = s.run ∧ t.odo.backTravel = true ∧ t.odo.furthest = s.odo.furthest))
    ∧ ∀ s : State,
        let time := BitVec.ofNat 32 (s.clock / 4000)
        let furthest := max s.odo.furthest s.pos
        let back := s.pos < furthest - (s.cfg.odometry.reverseDistance : Int)
        let odo (b : Bool) : Odo := { s.odo with furthest := furthest, backTravel := b }
        let number := s.span.opened.map fun _ => s.span.seq + 1
        let kinds (m : Monitors) : List (MonitorKind × Option Monitor) :=
          [(.stagger, m.stagger), (.heightLow, m.heightLow), (.wear, m.wear)]
        let closes (k : Slot) : List EventBody := (kinds (s.span.monitors.get k)).filterMap fun p =>
          p.2.map fun m => .excClose p.1 k m.wireId .runEnd m.openPos m.peak m.peakPos (max 0 (s.pos - m.openPos))
        let said (r : Report) (b : EventBody) : Report := r.produce s.pos time s.pos b
        let stored : Report := match s.span.opened with
          | none => s.rep
          | some o =>
            let r := match s.span.provisional with
              | some p => mergeSpans o p
              | none => o
            s.rep.storeSpan s.pos
              { r with
                seq := s.span.seq + 1, stop := furthest, reason := .reverse, closeSource := .none
                summaries := r.summaries.map fun y =>
                  { y with presentAtClose := inView s.span.view y.wireId, sAtClose := none } }
        let shown (t : Track) (l : LiveTrack) : LiveTrack :=
          if t.state = .free then l
          else { state := .free, wireId := 0, stagger := 0, height := 0, wear := none, lastHit := 0, peak := none
                 indication := none, mergedWith := none, fresh := true }
        (s.run.state = .stopped → s.checkTravel = s)
          ∧ (s.run.state ≠ .stopped → s.odo.backTravel = false → ¬ back → s.checkTravel = { s with odo := odo false })
          ∧ (s.odo.backTravel = false → back → s.run.state = .paused ∨ s.run.state = .faulted →
              s.checkTravel = { s with odo := odo true })
          ∧ (s.odo.backTravel = false → back → s.run.state = .armed ∨ s.run.state = .measuring →
              s.checkTravel =
                { s with
                  odo := odo true
                  run := { state := .paused, number := s.run.number, cause := some .reverse, causeFault := none }
                  rep := { said ((closes .n0 ++ closes .n1 ++ closes .n2 ++ closes .n3).foldl said stored)
                             (.runState s.run.state .paused .reverse s.run.number none number (some furthest)) with
                           runCause := true }
                  span := { SpanBuilder.initial with seq := number.getD s.span.seq }
                  trk := { s.trk with tracks := Four.const .empty }
                  live := { s.live with
                    tracks := ⟨shown s.trk.tracks.e0 s.live.tracks.e0, shown s.trk.tracks.e1 s.live.tracks.e1,
                               shown s.trk.tracks.e2 s.live.tracks.e2, shown s.trk.tracks.e3 s.live.tracks.e3⟩ } })
          ∧ (s.run.state ≠ .stopped → s.odo.backTravel = true → s.pos < s.odo.furthest → s.checkTravel = s)
          ∧ (s.odo.backTravel = true → s.odo.furthest ≤ s.pos →
              (s.run.state ≠ .stopped → s.run.state ≠ .paused → s.checkTravel = { s with odo := odo false })
                ∧ (s.run.state = .paused → s.checkTravel =
                    { s with
                      odo := odo false
                      run := { state := .armed, number := s.run.number, cause := some .forwardResumed, causeFault := none }
                      rep := { said s.rep (.runState .paused .armed .forwardResumed s.run.number none none (some s.pos)) with
                               runCause := true } }))

/-- R44, R144, R184: a phase error takes both lines' new levels, leaves the position, raises the level, stopping at 16,
and ODO_PHASE with the new level. The step from 15 to 16 raises ODO_LOST: outside a run it is counted alone, and a running
run moves to FAULTED as statement FaultsAreCountedByTheirClass lays down, with its table, tracks, span and exposure ended
and the fault as window end for the charge guard (R36, R37). R45, R155: the decay timer lowers the phase-error
level, not below 0, every 100 ms. The speed gate every 10 ms takes the difference over ten gates in mm/s, rounded half
away from zero and clamped, sets the direction from it, and updates live slot 0. -/
def Obligations.PhaseErrorsAndOdometerTimers : Prop :=
  (∀ s : State,
     let level := min 16 (s.odo.phaseLevel + 1)
     let noted : State := State.raise .odoPhase { qualifier := 0, number := level }
       { s with
         pins := { s.pins with encA := !s.pins.encA, encB := !s.pins.encB }, odo := { s.odo with phaseLevel := level } }
     let ended : Expo :=
       { s.expo with
         state := .ready, burst := none, stuckDue := none, ack := none, expSync := false, lasDrv := false
         guardDue := if s.cfg.exposure.quiet then
             (if s.cfg.exposure.chargeGuard = 0 then none else some (s.clock + 4 * s.cfg.exposure.chargeGuard))
           else s.expo.guardDue
         chgEn := s.expo.chgEn || (s.cfg.exposure.quiet && decide (s.cfg.exposure.chargeGuard = 0)) }
     (s.odo.phaseLevel ≠ 15 → exec .encoderPhaseError s = .next noted.settle)
       ∧ (s.odo.phaseLevel = 15 → s.run.state = .stopped ∨ s.run.state = .faulted →
           exec .encoderPhaseError s = .next (noted.raise .odoLost { qualifier := 0, number := 16 }).settle)
       ∧ (s.odo.phaseLevel = 15 →
           exec .encoderPhaseError s = .next (noted.raiseHalting .odoLost { qualifier := 0, number := 16 }).settle)
       ∧ (s.odo.phaseLevel = 15 → s.run.state ≠ .stopped → s.run.state ≠ .faulted → ∃ t : State,
           exec .encoderPhaseError s = .next t
             ∧ t.run = { state := .faulted, number := s.run.number, cause := some .haltingFault
                         causeFault := some .odoLost }
             ∧ t.odo = { s.odo with phaseLevel := 16 } ∧ t.table = [] ∧ t.trk = { s.trk with tracks := Four.const .empty }
             ∧ t.span.opened = none ∧ t.span.candidate = none ∧ t.rep.faultCause = true ∧ t.rep.runCause = true
             ∧ (s.expo.state ≠ .arming → s.expo.state ≠ .window → t.expo = { s.expo with ack := none })
             ∧ (s.expo.state = .arming ∨ s.expo.state = .window → t.expo = ended)))
    ∧ ∀ s : State,
        exec .phaseDecayTimer s =
            .next (State.settle
              { s with
                clock := max s.clock s.odo.decayDue
                odo := { s.odo with
                         phaseLevel := s.odo.phaseLevel - 1, decayDue := max s.clock s.odo.decayDue + 400000 } })
          ∧ ∀ (oldest : Int) (rest : List Int), s.odo.history = oldest :: rest →
              let diff := s.odo.acc - oldest
              let rounded := if 0 ≤ diff then (2 * diff + 100000) / 200000 else -((-2 * diff + 100000) / 200000)
              let v := max (-100000) (min 100000 rounded)
              let dir : Direction := if 0 < v then .forward else if v < 0 then .backward else .standstill
              exec .speedGate s =
                .next (State.settle
                  { s with
                    clock := max s.clock s.odo.gateDue
                    odo := { s.odo with
                             history := rest ++ [s.odo.acc], speed := v, direction := dir
                             gateDue := max s.clock s.odo.gateDue + 40000 }
                    live := { s.live with
                              travel := { position := s.pos, speed := v, direction := dir, run := s.run.state
                                          fresh := true } } })

/-! ### Exposures (R20 to R39) -/

/-- R27 to R29, R39, R120, R191: a trigger from any source. The exposure state is checked first, then the ARM frames, then
RSV_RDY, then the assembly table; the first that fails skips it with its fault. A trigger taken makes a staged set active:
a change to DISTANCE mode sets the grid base to the furthest position, and a change to TIMED mode, or of the period in it,
starts the period timer; in any other case a running timer keeps its due moment (log entry 35). The codes BUSY 0 and
ARM_LEAVING 1 are log entry 16, the total's stop is log entry 19, and the zeros of an entry before its window are log
entry 40. -/
def Obligations.TriggersAreTakenOrSkipped : Prop :=
  ∀ s : State,
    let old := s.cfg.exposure
    let set := s.cfg.stagedExposure.getD old
    let n := s.expo.counter + 1
    let leaving : Option ArmFrame := some { tag := n.setWidth 8, due := s.clock + 40 }
    (s.expo.state ≠ .ready → s.trigger = s.skippedOnce .triggerOverrun { qualifier := 0, number := 0 })
      ∧ (s.expo.state = .ready → s.heads.a.arm ≠ none ∨ s.heads.b.arm ≠ none →
          s.trigger = s.skippedOnce .triggerOverrun { qualifier := 1, number := 0 })
      ∧ (s.expo.state = .ready → s.heads.a.arm = none → s.heads.b.arm = none →
          (s.pins.rsvRdy = false → s.trigger =
              s.skippedOnce .reservoirLow { qualifier := 0, number := min 4294967295 (s.expo.skipped + 1) })
            ∧ (∀ (e : Entry) (es : List Entry), s.pins.rsvRdy = true → s.table = e :: es → 4 ≤ s.table.length →
                s.trigger = s.skippedOnce .assemblyFull { qualifier := 0, number := e.exposure.toNat })
            ∧ (s.pins.rsvRdy = true → s.table.length < 4 →
                s.trigger =
                  { s with
                    cfg := { s.cfg with exposure := set, stagedExposure := none }
                    heads := ⟨{ s.heads.a with arm := leaving }, { s.heads.b with arm := leaving }⟩
                    table := s.table ++
                      [{ exposure := n, phase := .allocated, expected := ⟨s.heads.a.live, s.heads.b.live⟩,
                         delivered := ⟨false, false⟩, headTimeout := set.headTimeout, dedupDx := set.dedupDx,
                         dedupDz := set.dedupDz, reversed := s.cfg.odometry.reversed, position := 0, windowEnd := none,
                         snapshot := ⟨0, 0, 0⟩, strain := 0, flags := .empty, returnsA := [], returnsB := [] }]
                    expo := { s.expo with
                              state := .arming, counter := n, guardDue := none, chgEn := !set.quiet
                              gridBase := if set.mode = .distance ∧ old.mode ≠ .distance then s.odo.furthest
                                          else s.expo.gridBase
                              periodDue := if set.mode = .timed ∧ (old.mode ≠ .timed ∨ old.period ≠ set.period)
                                           then some (s.clock + 4000 * set.period) else s.expo.periodDue }
                    live := { s.live with
                              expo := { s.live.expo with
                                        counter := n, skipped := s.expo.skipped, rsvRdy := true, fresh := true } } }))

/-- R1, R7, R26 to R29, R36, R38, R39, R120, R191: EXPOSE_ONCE in SINGLE mode. Taken: a staged set becomes active, the
exposure counter rises, the Scan Assembler allocates an entry, both ARM frames leave with its tag, and quiet charging
stops the charger. Skipped: the exposure state is checked first, then the ARM frames, then RSV_RDY, then the assembly
table. The skip is counted, its total stopping at its end (log entry 19), raises its fault, with BUSY 0 and ARM_LEAVING 1
for TRIGGER_OVERRUN (log entry 16), joins its span and updates live slot 3, and the exposure counter and a staged set
stay. The reply's layout is log entry 15, and the zeros of the entry before its window are log entry 40. -/
def Obligations.ExposeOnceTakesOrSkipsATrigger : Prop :=
  (∀ s : State, s.takesRequests → (s.run.state = .armed ∨ s.run.state = .measuring) → s.cfg.exposure.mode = .single →
      s.expo.state = .ready → s.heads.a.arm = none → s.heads.b.arm = none → s.table.length < 4 →
      let set := s.cfg.stagedExposure.getD s.cfg.exposure
      let n := s.expo.counter + 1
      let leaving : Option ArmFrame := some { tag := n.setWidth 8, due := s.clock + 40 }
      exec (.exposeOnce [] true) s =
        .next (State.settle
          { s with
            pins := { s.pins with rsvRdy := true }
            link := { s.link with
                      receiver := .hunting
                      slot := some { kind := 0x87, payload := [0, 0, 1] ++ toBytes 4 n.toNat } }
            cfg := { s.cfg with exposure := set, stagedExposure := none }
            heads := ⟨{ s.heads.a with arm := leaving }, { s.heads.b with arm := leaving }⟩
            table := s.table ++
              [{ exposure := n, phase := .allocated, expected := ⟨s.heads.a.live, s.heads.b.live⟩,
                 delivered := ⟨false, false⟩, headTimeout := set.headTimeout, dedupDx := set.dedupDx,
                 dedupDz := set.dedupDz, reversed := s.cfg.odometry.reversed, position := 0, windowEnd := none,
                 snapshot := ⟨0, 0, 0⟩, strain := 0, flags := .empty, returnsA := [], returnsB := [] }]
            expo := { s.expo with
                      state := .arming, counter := n, guardDue := none, chgEn := !set.quiet
                      gridBase := if set.mode = .distance then s.odo.furthest else s.expo.gridBase
                      periodDue := if set.mode = .timed then some (s.clock + 4000 * set.period) else s.expo.periodDue }
            live := { s.live with
                      expo := { s.live.expo with
                                counter := n, skipped := s.expo.skipped, rsvRdy := true, fresh := true } } }))
    ∧ ∀ (s : State) (ready : Bool), s.takesRequests → (s.run.state = .armed ∨ s.run.state = .measuring) →
        s.cfg.exposure.mode = .single →
        let skipped (outcome : Byte) (c : FaultCode) (v : FaultValue) : State :=
          State.answered 0x87 [0, outcome, 0, 0, 0, 0, 0]
            (State.skippedOnce c v { s with pins := { s.pins with rsvRdy := ready } })
        (s.expo.state ≠ .ready → exec (.exposeOnce [] ready) s =
            .next (skipped 1 .triggerOverrun { qualifier := 0, number := 0 }).settle)
          ∧ (s.expo.state = .ready → s.heads.a.arm ≠ none ∨ s.heads.b.arm ≠ none → exec (.exposeOnce [] ready) s =
              .next (skipped 1 .triggerOverrun { qualifier := 1, number := 0 }).settle)
          ∧ (s.expo.state = .ready → s.heads.a.arm = none → s.heads.b.arm = none →
              (ready = false → exec (.exposeOnce [] ready) s =
                  .next (skipped 2 .reservoirLow
                    { qualifier := 0, number := min 4294967295 (s.expo.skipped + 1) }).settle)
                ∧ ∀ (e : Entry) (es : List Entry), ready = true → s.table = e :: es → 4 ≤ s.table.length →
                    exec (.exposeOnce [] ready) s =
                      .next (skipped 3 .assemblyFull { qualifier := 0, number := e.exposure.toNat }).settle)

/-- R1, R8, R30, R32, R33, R64: the end of an ARM frame frees its link; when it is the last of an exposure in ARMING, the
window opens: EXP_SYNC and LAS_DRV go active, the first on-time, the acknowledge count and the stuck timer start, and the
entry is stamped with position, snapshot, strain and flags. A snapshot that is not fresh raises ATT_STALE. With no ARM
frame on the link nothing happens (log entry 3). -/
def Obligations.LastArmFrameOpensTheWindow : Prop :=
  ∀ (h : Head) (s : State),
    ((s.heads.get h).arm = none → exec (.armFrameSent h) s = .next s.settle)
      ∧ ∀ f : ArmFrame, (s.heads.get h).arm = some f →
          let now := max s.clock f.due
          let freed : State :=
            { s with clock := now, heads := s.heads.set h { s.heads.get h with arm := none } }
          let others : Prop := ∃ g : Head, g ≠ h ∧ (s.heads.get g).arm ≠ none
          let j := judgeSnapshot s.cal.work s.cfg.attitude.maxAge (now / 4) s.att
          let opened : State :=
            { freed with
              table := s.table.map fun e =>
                if e.exposure = s.expo.counter then
                  { e with
                    phase := .waiting, position := s.pos, snapshot := j.snapshot, strain := s.strain
                    flags := { e.flags with
                               attStale := e.flags.attStale || decide (j.ageCase = .stale)
                               attNone := e.flags.attNone || decide (j.ageCase = .none)
                               tempHeld := e.flags.tempHeld || s.att.held
                               uncalibrated := e.flags.uncalibrated || !s.cal.valid } }
                else e
              expo := { s.expo with
                        state := .window, expSync := true, lasDrv := true
                        burst := some { left := s.cfg.exposure.pulses, on := true
                                        due := now + 2 * s.cfg.exposure.onTime }
                        ack := some { exposure := s.expo.counter, pulses := s.cfg.exposure.pulses, count := 0
                                      due := none }
                        stuckDue := some (now + 4 * s.cfg.exposure.stuckWindow) } }
          (others → exec (.armFrameSent h) s = .next freed.settle)
            ∧ (¬ others → s.link.resetDue = false → s.expo.state ≠ .arming →
                exec (.armFrameSent h) s = .next freed.settle)
            ∧ (¬ others → s.link.resetDue = false → s.expo.state = .arming → j.ageCase = .fresh →
                exec (.armFrameSent h) s = .next opened.settle)
            ∧ (¬ others → s.link.resetDue = false → s.expo.state = .arming → j.ageCase ≠ .fresh →
                exec (.armFrameSent h) s =
                  .next (opened.raise .attStale { qualifier := 0, number := j.ageMs }).settle)

/-- R8, R31 to R36: the burst's timer ends an on-time, starts the next pulse, or with the last off-time ends the window.
The stuck timer ends the window at once, marks the entry ILLUM_STUCK and raises DRIVE_STUCK. At a window end the outputs
go inactive, the blank-out, the acknowledge decision and with quiet charging the charge guard start; a time of 0 has
elapsed at once. With no burst or no stuck timer running nothing happens (log entry 3). -/
def Obligations.BurstAndStuckTimerEndTheWindow : Prop :=
  ∀ s : State,
    let set := s.cfg.exposure
    let ended (now : Nat) (mark : Entry → Entry) : State :=
      { s with
        clock := now
        table := s.table.map fun e => if e.exposure = s.expo.counter then mark { e with windowEnd := some now } else e
        expo := { s.expo with
                  state := if set.blankOut = 0 then .ready else .blank
                  blankDue := if set.blankOut = 0 then none else some (now + 40 * set.blankOut)
                  expSync := false, lasDrv := false, burst := none, stuckDue := none
                  ack := s.expo.ack.map fun a => { a with due := some (now + 20) }
                  guardDue := if set.quiet then
                      (if set.chargeGuard = 0 then none else some (now + 4 * set.chargeGuard)) else s.expo.guardDue
                  chgEn := if set.quiet ∧ set.chargeGuard = 0 then true else s.expo.chgEn } }
    (s.expo.burst = none → exec .burstPulseTimer s = .next s.settle)
      ∧ (∀ b : Burst, s.expo.burst = some b →
          let now := max s.clock b.due
          (b.on = true → exec .burstPulseTimer s =
              .next (State.settle
                { s with
                  clock := now
                  expo := { s.expo with
                            lasDrv := false, burst := some { b with on := false, due := now + 2 * set.offTime } } }))
            ∧ (b.on = false → 2 ≤ b.left → exec .burstPulseTimer s =
                .next (State.settle
                  { s with
                    clock := now
                    expo := { s.expo with
                              lasDrv := true
                              burst := some { left := b.left - 1, on := true, due := now + 2 * set.onTime } } }))
            ∧ (b.on = false → b.left ≤ 1 → exec .burstPulseTimer s = .next (ended now id).settle))
      ∧ (s.expo.stuckDue = none → exec .stuckTimerExpiry s = .next s.settle)
      ∧ ∀ due : Nat, s.expo.stuckDue = some due → exec .stuckTimerExpiry s =
          .next (State.settle
            (State.raise .driveStuck { qualifier := 0, number := s.expo.counter.toNat }
              (ended (max s.clock due) fun e => { e with flags := { e.flags with illumStuck := true } })))

/-- R32, R33, R34: a rising level on LAS_ACK is counted while a count is open, and each change restarts a running stuck
timer. The decision compares the count with the pulses: when they differ the exposure's entry carries ILLUM_SHORT and
PULSE_COUNT is raised with the count. With no decision due nothing happens (log entry 3). R35, R36, R140: the end of a
blank-out makes the exposure state READY and releases a held STOP_RUN reply with the number of the span that the stop
closed, in the model's layout (log entry 15); the end of the charge guard makes CHG_EN active. With neither running
nothing happens (log entry 3). -/
def Obligations.AcknowledgesBlankOutAndGuard : Prop :=
  (∀ s : State,
     exec .lasAckChange s =
         .next (State.settle
           { s with
             pins := { s.pins with lasAck := !s.pins.lasAck }
             expo := { s.expo with
                       ack := if s.pins.lasAck then s.expo.ack
                              else s.expo.ack.map fun a => { a with count := a.count + 1 }
                       stuckDue := s.expo.stuckDue.map fun _ => s.clock + 4 * s.cfg.exposure.stuckWindow } })
       ∧ ((s.expo.ack = none ∨ ∃ a, s.expo.ack = some a ∧ a.due = none) → exec .ackCountDecision s = .next s.settle)
       ∧ ∀ (a : AckCount) (due : Nat), s.expo.ack = some a → a.due = some due →
           let decided : State := { s with clock := max s.clock due, expo := { s.expo with ack := none } }
           (a.count = a.pulses → exec .ackCountDecision s = .next decided.settle)
             ∧ (a.count ≠ a.pulses → exec .ackCountDecision s =
                 .next (State.settle (State.raise .pulseCount { qualifier := 0, number := a.count }
                   { decided with
                     table := s.table.map fun e =>
                       if e.exposure = a.exposure then { e with flags := { e.flags with illumShort := true } } else e }))))
    ∧ ∀ s : State,
        (s.expo.blankDue = none → exec .blankOutEnd s = .next s.settle)
          ∧ (∀ due : Nat, s.expo.blankDue = some due →
              let ready : State :=
                { s with clock := max s.clock due, expo := { s.expo with state := .ready, blankDue := none } }
              (s.link.handling ≠ .heldForStop → exec .blankOutEnd s = .next ready.settle)
                ∧ (s.link.handling = .heldForStop → exec .blankOutEnd s =
                    .next (State.settle
                      { ready with
                        link := { s.link with
                                  handling := .openForRequests, stopClosed := none
                                  slot := some { kind := 0x86
                                                 payload := 0 :: toBytes 2 s.run.number
                                                   ++ [flagByte s.link.stopClosed.isSome]
                                                   ++ toBytes 4 (s.link.stopClosed.getD 0).toNat } } })))
          ∧ (s.expo.guardDue = none → exec .chargeGuardExpiry s = .next s.settle)
          ∧ ∀ due : Nat, s.expo.guardDue = some due → exec .chargeGuardExpiry s =
              .next (State.settle
                { s with clock := max s.clock due, expo := { s.expo with guardDue := none, chgEn := true } })

/-- R21, R24, R25: a change of TRIG_IN starts its 2 µs filter unless it returns to the accepted level; the filter accepts
the level, and a fall triggers in EXTERNAL mode in ARMED and MEASURING. The period timer runs on at each expiry and
triggers in TIMED mode. With no filter time or period running nothing happens (log entry 3). -/
def Obligations.TriggerInputsTrigger : Prop :=
  ∀ (s : State) (ready : Bool),
    let seen : State := { s with pins := { s.pins with rsvRdy := ready } }
    let acting := s.run.state = .armed ∨ s.run.state = .measuring
    exec .trigInChange s =
        .next (State.settle
          { s with
            pins := { s.pins with trigIn := !s.pins.trigIn }
            expo := { s.expo with
                      trigFilter := { s.expo.trigFilter with
                                      due := if s.expo.trigFilter.accepted = some (!s.pins.trigIn) then none
                                             else some (s.clock + 8) } } })
      ∧ (s.expo.trigFilter.due = none → exec (.trigInFilterExpiry ready) s = .next seen.settle)
      ∧ (∀ due : Nat, s.expo.trigFilter.due = some due →
          let accepted : State :=
            { seen with
              clock := max s.clock due
              expo := { s.expo with trigFilter := { accepted := some s.pins.trigIn, due := none } } }
          let falls := s.expo.trigFilter.accepted = some true ∧ s.pins.trigIn = false
          (falls ∧ acting ∧ s.cfg.exposure.mode = .external →
              exec (.trigInFilterExpiry ready) s = .next accepted.trigger.settle)
            ∧ (¬ (falls ∧ acting ∧ s.cfg.exposure.mode = .external) →
                exec (.trigInFilterExpiry ready) s = .next accepted.settle))
      ∧ (s.expo.periodDue = none → exec (.periodTimerExpiry ready) s = .next seen.settle)
      ∧ ∀ due : Nat, s.expo.periodDue = some due →
          let again : State :=
            { seen with
              clock := max s.clock due
              expo := { s.expo with periodDue := some (max s.clock due + 4000 * s.cfg.exposure.period) } }
          (acting ∧ s.cfg.exposure.mode = .timed → exec (.periodTimerExpiry ready) s = .next again.trigger.settle)
            ∧ (¬ (acting ∧ s.cfg.exposure.mode = .timed) → exec (.periodTimerExpiry ready) s = .next again.settle)

/-! ### Head frames and scans (R2 to R18) -/

/-- R4, R5, R9, R10, R201: a valid RETURNS frame revives its head. The WAITING entry that carries its tag and has not had
that head's frame takes the returns inside the head's field, and is COMPLETE once every expected head has delivered; what
is due is then delivered. Any other is discarded with HEAD_LATE, its tag as the number. A payload that fails a check is
HEAD_FRAME. -/
def Obligations.ReturnsFramesAreUsedOrLate : Prop :=
  ∀ (h : Head) (ready : Bool) (s : State),
    let code := match h with
      | .a => 0
      | .b => 1
    (∀ f : ReturnsFrame, f.inRange →
        let lo := match h with
          | .a => s.cal.work.fieldALow
          | .b => s.cal.work.fieldBLow
        let hi := match h with
          | .a => s.cal.work.fieldAHigh
          | .b => s.cal.work.fieldBHigh
        let kept := f.returns.filter fun r => decide (lo ≤ r.xh ∧ r.xh ≤ hi)
        let complete (e : Entry) : Bool :=
          (e.expected.a || e.expected.b) && (!e.expected.a || decide (h = .a) || e.delivered.a)
            && (!e.expected.b || decide (h = .b) || e.delivered.b)
        let filled (e : Entry) : Entry :=
          { e with
            delivered := e.delivered.set h true, returnsA := if h = .a then kept else e.returnsA
            returnsB := if h = .b then kept else e.returnsB, phase := if complete e then .complete else e.phase }
        let revived : State :=
          { s with
            pins := { s.pins with rsvRdy := ready }
            heads := s.heads.set h { s.heads.get h with receiver := .hunting, live := true, silence := 0 } }
        let late : State := revived.raise .headLate { qualifier := code, number := f.tag.toNat }
        ((∀ e ∈ s.table, e.exposure.setWidth 8 ≠ f.tag) →
            exec (.returnsFrameReceived h (returnsBytes f) ready) s = .next late.settle)
          ∧ ∀ e : Entry, entryWithTag f.tag s.table = some e →
              (e.phase ≠ .waiting ∨ e.delivered.get h = true →
                  exec (.returnsFrameReceived h (returnsBytes f) ready) s = .next late.settle)
                ∧ (e.phase = .waiting → e.delivered.get h = false →
                    exec (.returnsFrameReceived h (returnsBytes f) ready) s =
                      .next (State.settle (State.deliver
                        { revived with
                          table := s.table.map fun x => if x.exposure = e.exposure then filled x else x }))))
      ∧ ∀ (payload : List Byte) (r : HeadReason), checkReturns payload = .failed r →
          exec (.returnsFrameReceived h payload ready) s =
            .next (State.settle (State.raise .headFrame { qualifier := code + 16 * r.code, number := 0 }
              { s with
                pins := { s.pins with rsvRdy := ready }
                heads := s.heads.set h { s.heads.get h with receiver := .hunting } }))

/-- R2, R3, R190: a frame abandoned for its length, a byte error or a gap, and a frame received whole that fails a check,
are discarded with HEAD_FRAME; the value is the head with 16 times the reason (log entry 16). With no frame being received
there is nothing to abandon (log entry 9). A preamble is followed at any time. -/
def Obligations.HeadFrameErrorsAreDiscarded : Prop :=
  ∀ (h : Head) (s : State),
    let code := match h with
      | .a => 0
      | .b => 1
    let hunting : State := { s with heads := s.heads.set h { s.heads.get h with receiver := .hunting } }
    let bad (reason : Nat) : Host.Outcome State Fault Refusal :=
      .next (hunting.raise .headFrame { qualifier := code + 16 * reason, number := 0 }).settle
    ((s.heads.get h).receiver = .inFrame →
        exec (.headFrameError h .length) s = bad 0 ∧ exec (.headByteGapTimeout h) s = bad 1
          ∧ exec (.headFrameError h .byteError) s = bad 2)
      ∧ ((s.heads.get h).receiver = .hunting →
          exec (.headFrameError h .length) s = .next s.settle ∧ exec (.headByteGapTimeout h) s = .next s.settle
            ∧ exec (.headFrameError h .byteError) s = .next s.settle)
      ∧ (∀ (kind : Byte) (payload : List Byte) (crc : BitVec 16),
          let sum := crc16 (toBytes 2 payload.length ++ kind :: payload)
          (crc ≠ sum → exec (.headFrameError h (.whole kind payload crc)) s = bad 3)
            ∧ (crc = sum → kind ≠ 0x41 → exec (.headFrameError h (.whole kind payload crc)) s = bad 4)
            ∧ (crc = sum → kind = 0x41 → payload.length < 2 →
                exec (.headFrameError h (.whole kind payload crc)) s = bad 6)
            ∧ (∀ (tag n : Byte) (rest : List Byte), crc = sum → kind = 0x41 → payload = tag :: n :: rest →
                (6 < n.toNat → exec (.headFrameError h (.whole kind payload crc)) s = bad 5)
                  ∧ (n.toNat ≤ 6 → rest.length ≠ 8 * n.toNat →
                      exec (.headFrameError h (.whole kind payload crc)) s = bad 6)
                  ∧ (n.toNat ≤ 6 → rest.length = 8 * n.toNat →
                      (∃ k, k < n.toNat ∧ (30000 < natOfBytes ((rest.drop (8 * k + 2)).take 2)
                        ∨ 20000 < natOfBytes ((rest.drop (8 * k + 4)).take 2))) →
                      exec (.headFrameError h (.whole kind payload crc)) s = bad 7)
                  ∧ (n.toNat ≤ 6 → rest.length = 8 * n.toNat →
                      (∀ k, k < n.toNat → natOfBytes ((rest.drop (8 * k + 2)).take 2) ≤ 30000
                        ∧ natOfBytes ((rest.drop (8 * k + 4)).take 2) ≤ 20000) →
                      exec (.headFrameError h (.whole kind payload crc)) s = .next hunting.settle)))
      ∧ exec (.headRxPreamble h) s =
          .next (State.settle { s with heads := s.heads.set h { s.heads.get h with receiver := .inFrame } })

/-- R11, R12, R13, R184: the head timeout of a WAITING entry whose window has ended times the entry out and counts a
silence for each expected head that has not delivered: HEAD_SILENT, and HEAD_LOST with its sixteenth in a row. When that
leaves both heads LOST, HEADS_LOST follows, and moves a running run to FAULTED as statement FaultsAreCountedByTheirClass
lays down, with the exposure and the charge guard treated by R36 and R37; otherwise what is due is delivered. HEADS_LOST
carries the head that completed the pair, 0 or 1, or BOTH as 2 (log entry 16). With no such timeout running nothing
happens (log entry 3). -/
def Obligations.HeadTimeoutCountsTheSilent : Prop :=
  ∀ (tag : Byte) (ready : Bool) (s : State),
    let seen : State := { s with pins := { s.pins with rsvRdy := ready } }
    (((∀ e ∈ s.table, e.exposure.setWidth 8 ≠ tag)
          ∨ ∃ e, entryWithTag tag s.table = some e ∧ (e.phase ≠ .waiting ∨ e.windowEnd = none)) →
        exec (.headTimeout tag ready) s = .next seen.settle)
      ∧ ∀ (e : Entry) (ended : Nat), entryWithTag tag s.table = some e → e.phase = .waiting → e.windowEnd = some ended →
          let missing (g : Head) : Bool := e.expected.get g && !e.delivered.get g
          let lost (g : Head) : Bool := missing g && (s.heads.get g).live && decide (15 ≤ (s.heads.get g).silence)
          let link (g : Head) : HeadLink :=
            if missing g then
              { s.heads.get g with
                silence := min 16 ((s.heads.get g).silence + 1)
                live := (s.heads.get g).live && decide ((s.heads.get g).silence < 15) }
            else s.heads.get g
          let note (g : Head) (code : Nat) (t : State) : State :=
            if missing g then
              (let u := State.raise .headSilent { qualifier := code, number := 0 } t
               if lost g then u.raise .headLost { qualifier := code, number := 0 } else u)
            else t
          let counted : State :=
            note .b 1 (note .a 0
              { seen with
                clock := max s.clock (ended + 4000 * e.headTimeout), heads := ⟨link .a, link .b⟩
                table := s.table.map fun x => if x.exposure = e.exposure then { x with phase := .timedOut } else x })
          let fin : Expo :=
            { s.expo with
              state := .ready, burst := none, stuckDue := none, ack := none, expSync := false, lasDrv := false
              guardDue := if s.cfg.exposure.quiet then
                  (if s.cfg.exposure.chargeGuard = 0 then none else some (counted.clock + 4 * s.cfg.exposure.chargeGuard))
                else s.expo.guardDue
              chgEn := s.expo.chgEn || (s.cfg.exposure.quiet && decide (s.cfg.exposure.chargeGuard = 0)) }
          let both := (lost .a = true ∨ lost .b = true) ∧ (link .a).live = false ∧ (link .b).live = false
          (¬ both → exec (.headTimeout tag ready) s = .next counted.deliver.settle)
            ∧ (both → exec (.headTimeout tag ready) s =
                .next (State.settle (State.deliver (State.raiseHalting .headsLost
                  { qualifier := if lost .a then (if lost .b then 2 else 0) else 1, number := 0 } counted))))
            ∧ (both → s.run.state = .armed ∨ s.run.state = .measuring ∨ s.run.state = .paused → ∃ t : State,
                exec (.headTimeout tag ready) s = .next t ∧ t.table = [] ∧ t.heads = ⟨link .a, link .b⟩
                  ∧ t.run = { state := .faulted, number := s.run.number, cause := some .haltingFault
                              causeFault := some .headsLost }
                  ∧ t.span.opened = none ∧ t.trk = { s.trk with tracks := Four.const .empty }
                  ∧ t.rep.faultCause = true ∧ t.rep.runCause = true
                  ∧ (s.expo.state ≠ .arming → s.expo.state ≠ .window → t.expo = { s.expo with ack := none })
                  ∧ (s.expo.state = .arming ∨ s.expo.state = .window → t.expo = fin))

/-- R13, R14, R17, R18, R90: delivery frees the entries from the oldest on while they are COMPLETE or TIMED_OUT, in that
order, each with live slot 3, and stops at the first that is not. Outside ARMED and MEASURING the scan is discarded:
tracker and spans stay; in them the tracker takes it and the Span Builder its outcome. RETURNS_TRUNCATED carries how many
returns the cut removed. A scan keeps at most eight returns in ascending x_c. -/
def Obligations.ScansAreDeliveredInOrder : Prop :=
  (∀ s : State, ∃ k : Nat, k ≤ s.table.length ∧ s.deliver.table = s.table.drop k
      ∧ (∀ e ∈ s.table.take k, e.phase = .complete ∨ e.phase = .timedOut)
      ∧ (∀ e : Entry, s.deliver.table.head? = some e → e.phase = .allocated ∨ e.phase = .waiting)
      ∧ (k = 0 → s.deliver = s)
      ∧ (∀ (e : Entry) (es : List Entry), s.table = e :: es → e.phase = .complete ∨ e.phase = .timedOut →
          let scan := scanOf s.cal.work s.cfg e
          let left : State := { s with table := es }
          let cut : State :=
            if scan.removed = 0 then left else left.raise .returnsTruncated { qualifier := 0, number := scan.removed }
          let shown : State :=
            { cut with
              live := { s.live with
                        expo := { counter := s.expo.counter, skipped := s.expo.skipped, flags := scan.flags
                                  exposure := e.exposure, rsvRdy := s.pins.rsvRdy, fresh := true } } }
          s.deliver =
            if s.run.state = .armed ∨ s.run.state = .measuring then
              (State.takeOutcome (shown.track scan).2 (shown.track scan).1).deliver
            else shown.deliver)
      ∧ (∀ e : Entry, (s.table.take k).getLast? = some e →
          s.deliver.live.expo.exposure = e.exposure ∧ s.deliver.live.expo.fresh = true
            ∧ s.deliver.live.expo.flags.headAAbsent = (e.flags.headAAbsent || !e.delivered.a)
            ∧ s.deliver.live.expo.flags.headBAbsent = (e.flags.headBAbsent || !e.delivered.b))
      ∧ (s.run.state ≠ .armed → s.run.state ≠ .measuring → s.deliver.trk = s.trk ∧ s.deliver.span = s.span)
      ∧ s.deliver.heads = s.heads ∧ s.deliver.expo = s.expo ∧ s.deliver.odo = s.odo ∧ s.deliver.att = s.att
      ∧ s.deliver.cal = s.cal ∧ s.deliver.link = s.link ∧ s.deliver.clock = s.clock)
    ∧ ∀ (c : CalFields) (e : Entry), (returnList c e).1.length ≤ 8
        ∧ (returnList c e).1.Pairwise (fun x y => x.xc ≤ y.xc)

/-! ### Wires (R80 to R82, R100 to R110) -/

/-- R14, R71 to R79, R85: the rounding of every quotient, half away from zero; a head's return in the reported frame, with
the thermal shift of the left head subtracted and of the right head added; and a return's stagger and height, from the
snapshot in the track frame. What is not computed is kept. -/
def Obligations.ReturnsReachTheTrackFrame : Prop :=
  (∀ n d : Int, d ≠ 0 → rounds n d (roundDiv n d) ∧ ∀ q : Int, rounds n d q → q = roundDiv n d)
    ∧ (∀ (c : CalFields) (e : Entry) (h : Head) (r : HeadReturn),
        let out := placeReturn c e h r
        let x := (if e.reversed then -r.xh else r.xh) * 100
        let shift := roundDiv ((match h with | .a => c.lA | .b => c.lB) * e.strain) 1000000
        let left := (h = .a ∧ e.reversed = false) ∨ (h = .b ∧ e.reversed = true)
        (left → out.ret.xc = x - shift) ∧ (¬ left → out.ret.xc = x + shift)
          ∧ out.ret.source = (match h with | .a => .a | .b => .b) ∧ out.ret.zh = r.zh ∧ out.ret.wh = r.wh
          ∧ out.ret.peak = r.peak ∧ out.ret.saturated = r.saturated ∧ out.ret.place = r.place
          ∧ (out.band = true ↔ max c.fieldALow c.fieldBLow ≤ r.xh ∧ r.xh ≤ min c.fieldAHigh c.fieldBHigh))
    ∧ ∀ (c : CalFields) (g : Groups) (reversed : Bool) (snap : Snapshot) (r : ScanReturn),
        let out := convertReturn c g reversed snap r
        let roll := if reversed then -snap.roll else snap.roll
        let lateral := if reversed then -snap.lateral else snap.lateral
        let height := c.hb + snap.bounce + r.zh * 100
        out.s = r.xc + lateral + roundDiv (height * roll) 1000000
          ∧ out.h = height - roundDiv (r.xc * roll) 1000000
          ∧ out.source = r.source ∧ out.xc = r.xc ∧ out.peak = r.peak ∧ out.saturated = r.saturated

/-- R14 to R18, R85: the scan of an entry. The pairs taken are candidates, share no member, and each candidate not taken
yields to a taken one that shares a member and comes no later by |Δx| and the places of its members. The merged list holds
one return for each pair taken, at the place of its A member (log entry 13), and every return that joined none; of more
than eight the first eight by peak, x_c, source and place are kept, in ascending x_c, source and place. -/
def Obligations.HeadReturnsAreMergedAndCut : Prop :=
  ∀ (c : CalFields) (g : Groups) (e : Entry),
    let as := e.returnsA.map (placeReturn c e .a)
    let bs := e.returnsB.map (placeReturn c e .b)
    let candidate (p : Sighting) : Prop := ∃ a ∈ as, ∃ b ∈ bs,
      a.band = true ∧ b.band = true ∧ (a.ret.xc - b.ret.xc).natAbs ≤ e.dedupDx * 100
        ∧ (a.ret.zh - b.ret.zh).natAbs ≤ e.dedupDz
        ∧ p = { a := a.ret, b := b.ret, dx := ((a.ret.xc - b.ret.xc).natAbs : Int) }
    let noLater (q p : Sighting) : Prop :=
      q.dx < p.dx ∨ (q.dx = p.dx ∧ (q.a.place < p.a.place ∨ (q.a.place = p.a.place ∧ q.b.place ≤ p.b.place)))
    let merged (p : Sighting) : ScanReturn :=
      let donor := if p.a.peak < p.b.peak then p.b else p.a
      { source := .both, xc := roundDiv (p.a.xc + p.b.xc) 2, zh := roundDiv (p.a.zh + p.b.zh) 2, wh := donor.wh
        peak := donor.peak, saturated := donor.saturated, place := p.a.place }
    let rank (x : ReturnSource) : Nat := match x with | .a => 0 | .both => 1 | .b => 2
    let listed (x y : ScanReturn) : Prop :=
      x.xc < y.xc ∨ (x.xc = y.xc
        ∧ (rank x.source < rank y.source ∨ (rank x.source = rank y.source ∧ x.place ≤ y.place)))
    let list := mergeReturns e as bs
    let kept := (returnList c e).1
    (∃ taken : List Sighting,
        (∀ p ∈ taken, candidate p)
          ∧ taken.Pairwise (fun p q => p.a.place ≠ q.a.place ∧ p.b.place ≠ q.b.place)
          ∧ (∀ p : Sighting, candidate p → p ∉ taken →
              ∃ q ∈ taken, noLater q p ∧ (q.a.place = p.a.place ∨ q.b.place = p.b.place))
          ∧ list = taken.map merged
              ++ (as.filter fun a => taken.all fun p => decide (p.a.place ≠ a.ret.place)).map Placed.ret
              ++ (bs.filter fun b => taken.all fun p => decide (p.b.place ≠ b.ret.place)).map Placed.ret)
      ∧ kept.length = min 8 list.length ∧ (returnList c e).2 = list.length - 8
      ∧ kept.Pairwise listed
      ∧ (∃ cut : List ScanReturn, list.Perm (kept ++ cut)
          ∧ ∀ x ∈ kept, ∀ y ∈ cut, y.peak < x.peak ∨ (x.peak = y.peak ∧ listed x y))
      ∧ (let scan := scanOf c g e
         scan.exposure = e.exposure ∧ scan.position = e.position ∧ scan.snapshot = e.snapshot ∧ scan.strain = e.strain
          ∧ scan.flags = { e.flags with
              headAAbsent := e.flags.headAAbsent || !e.delivered.a
              headBAbsent := e.flags.headBAbsent || !e.delivered.b }
          ∧ scan.returns = kept.map (convertReturn c g e.reversed e.snapshot) ∧ scan.removed = list.length - 8)

/-- R80, R81: the wear indication is decided by the saturated flag, the diameter and the wear resolution in that order; a
width below the resolution counts as no wear, and the remaining height of every other width is the radius and the integer
root of r² − ⌊w²/4⌋, with the depth and the rounded per mille that follow. -/
def Obligations.WearSamplesFollowTheirCase : Prop :=
  ∀ (c : CalFields) (g : Groups) (reversed : Bool) (snap : Snapshot) (r : ScanReturn), g.wireTypeInForce.inRange →
    let out := convertReturn c g reversed snap r
    let radius := g.wireTypeInForce.radius
    (r.saturated = true → out.indication = .saturated ∧ out.sample = none)
      ∧ (r.saturated = false → 2 * radius ≤ r.wh → out.indication = .widthImplausible ∧ out.sample = none)
      ∧ (r.saturated = false → r.wh < 2 * radius → r.wh < g.tracking.wearResolution →
          out.indication = .belowResolution
            ∧ out.sample = some { remaining := 2 * radius, depth := 0, perMille := 1000, wireType := g.line.wireType })
      ∧ (r.saturated = false → r.wh < 2 * radius → g.tracking.wearResolution ≤ r.wh → ∃ root : Nat,
          root * root ≤ radius * radius - r.wh * r.wh / 4 ∧ radius * radius - r.wh * r.wh / 4 < (root + 1) * (root + 1)
            ∧ out.indication = .sample
            ∧ out.sample = some
                { remaining := radius + root, depth := radius - root
                  perMille := (1000 * (radius + root) + radius) / (2 * radius), wireType := g.line.wireType })

/-- R89, R92 to R99: steps 1 to 4 of a scan. The returns that pass the hold threshold and the height window, lifted while
the zone is set, are indexed in ascending stagger, equal ones in the scan's order. Merged pairs are close by prediction, a
close pair not formed yields to a formed one that shares a slot and comes no later by |Δs_pred| and slots. A candidate not
assigned yields to an assigned one of its track, or of its return unless the return is shared with the partner. -/
def Obligations.ReturnsAreAssignedToTracks : Prop :=
  ∀ (t : TrackingSet) (zone : Bool) (tracks : Four Track) (scan : Scan),
    let m := matchScan t zone tracks scan
    let rets := m.indexed.map Indexed.ret
    let top := if zone then t.windowHigh + t.overlapLift else t.windowHigh
    let keeps (r : Converted) : Bool := decide (t.accept - t.hysteresis ≤ r.peak)
      && decide ((t.windowLow : Int) * 1000 ≤ r.h) && decide (r.h ≤ (top : Int) * 1000)
    let predS (k : Slot) : Int :=
      (tracks.get k).lastS + roundDiv ((tracks.get k).rate * (scan.position - (tracks.get k).lastHit)) 1000
    let predH (k : Slot) : Int := (tracks.get k).lastH
    let apart (j k : Slot) : Nat := (predS j - predS k).natAbs
    let close (j k : Slot) : Prop := (tracks.get j).state ≠ .free ∧ (tracks.get k).state ≠ .free
      ∧ apart j k ≤ t.mergeStagger * 1000 ∧ (predH j - predH k).natAbs ≤ t.mergeHeight * 1000
    let partner (k : Slot) : Option Slot := (m.tracks.get k).mergedWith
    let gated (k : Slot) (r : Indexed) : Prop := (tracks.get k).state ≠ .free
      ∧ (r.ret.s - predS k).natAbs ≤ t.staggerGate * 1000 ∧ (r.ret.h - predH k).natAbs ≤ t.heightGate * 1000
      ∧ (r.lowPeak = false ∨ (tracks.get k).state = .confirmed ∨ (tracks.get k).state = .coasting)
    let cost (k : Slot) (r : Indexed) : Nat := (r.ret.s - predS k).natAbs + (r.ret.h - predH k).natAbs
    let noLater (j : Slot) (q : Indexed) (k : Slot) (r : Indexed) : Prop :=
      cost j q < cost k r ∨ (cost j q = cost k r ∧ (j.num < k.num ∨ (j.num = k.num ∧ q.index ≤ r.index)))
    let alone (j k : Slot) (r : Indexed) : Prop := ∀ q ∈ m.indexed, gated j q ∨ gated k q → q.index = r.index
    (∀ k : Slot, m.tracks.get k = { tracks.get k with mergedWith := partner k })
      ∧ (rets.Perm (scan.returns.filter keeps) ∧ rets.Pairwise (fun x y => x.s ≤ y.s)
        ∧ (∀ v : Int, rets.filter (fun r => decide (r.s = v))
            = (scan.returns.filter keeps).filter (fun r => decide (r.s = v)))
        ∧ m.indexed.map Indexed.index = List.range m.indexed.length
        ∧ ∀ r ∈ m.indexed, r.lowPeak = decide (r.ret.peak < t.accept))
      ∧ (∀ j k : Slot, partner j = some k → j ≠ k ∧ partner k = some j ∧ close j k)
      ∧ (∀ j k : Slot, j.num < k.num → close j k → partner j ≠ some k →
          ∃ x y : Slot, x.num < y.num ∧ partner x = some y ∧ (x = j ∨ x = k ∨ y = j ∨ y = k)
            ∧ (apart x y < apart j k ∨ (apart x y = apart j k ∧ (x.num < j.num ∨ (x.num = j.num ∧ y.num ≤ k.num)))))
      ∧ (∀ (k : Slot) (a : Assigned), m.assigned.get k = some a →
          a.ret ∈ m.indexed ∧ gated k a.ret
            ∧ (a.joined = false → ∀ (j : Slot) (b : Assigned), j ≠ k → m.assigned.get j = some b →
                b.ret.index = a.ret.index → b.joined = true)
            ∧ (a.joined = true → ∃ (p : Slot) (b : Assigned), partner k = some p ∧ m.assigned.get p = some b
                ∧ b.joined = false ∧ b.ret = a.ret ∧ noLater p b.ret k a.ret ∧ alone k p a.ret)
            ∧ (a.shared = true ↔ a.joined = true ∨ ∃ (j : Slot) (b : Assigned), m.assigned.get j = some b
                ∧ b.joined = true ∧ b.ret = a.ret))
      ∧ ∀ (k : Slot) (r : Indexed), r ∈ m.indexed → gated k r → (∀ a : Assigned, m.assigned.get k = some a → a.ret ≠ r) →
          (∃ a : Assigned, m.assigned.get k = some a ∧ noLater k a.ret k r)
            ∨ ∃ (j : Slot) (b : Assigned), j ≠ k ∧ m.assigned.get j = some b ∧ b.joined = false ∧ b.ret = r
                ∧ noLater j r k r ∧ ¬ (partner k = some j ∧ alone k j r)

/-- R83, R87, R88, R100 to R102, R104 to R106, R108 to R111: what a scan does to a track. A hit takes the return's values,
its rate unless the hit is shared, and its wear sample, and leaves the track CONFIRMED, or TENTATIVE until the hits to
confirm; a CONFIRMED track coasts from its first miss, a COASTING one goes on while the coasted distance allows, and a
TENTATIVE one is dropped, its slot then NEW alone when a new track takes it (log entry 37); a track that starts is
TENTATIVE with one hit. A track that took a return is told HIT or SHARED_HIT unless it ends as a duplicate, and one that
took none MISS, ENDED, NEW or both of the last (which of them end: statement ScansConfirmStartAndEndTracks). The outcome
says both ENDED and NEW of a slot that ended and was taken. The merged partner is that of step 3; the wear value is a
median. Live slots 4..7 follow the slots. That the outcome SHARED_HIT is that of the joining track alone, while both
tracks' rates stay, is the model's choice (log entry 34). -/
def Obligations.TracksFollowTheirHits : Prop :=
  (∀ (scan : Scan) (s : State),
      let out := s.track scan
      let m := matchScan s.cfg.tracking s.mark.zone s.trk.tracks scan
      let travel : Int := if scan.position < s.trk.lastScan then 0 else scan.position - s.trk.lastScan
      out.1.trk.lastScan = scan.position ∧ out.2.scan = scan
        ∧ ∀ k : Slot,
            let before := s.trk.tracks.get k
            let after := out.1.trk.tracks.get k
            let told := out.2.slots.get k
            let result := told.result
            let rated (r : Converted) : Int :=
              let inst := if scan.position = before.lastHit then 0
                else roundDiv ((r.s - before.lastS) * 1000) (scan.position - before.lastHit)
              max (-20000) (min 20000 (roundDiv (3 * before.rate + inst) 4))
            told.track = after ∧ told.mergedWith = (m.tracks.get k).mergedWith
              ∧ (before.state ≠ .free → ∀ a : Assigned, m.assigned.get k = some a →
                  result = if told.ended.isSome then .ended else if a.joined then .sharedHit else .hit)
              ∧ (before.state ≠ .free → m.assigned.get k = none →
                  result = if told.ended.isSome then (if after.state = .tentative then .endedAndNew else .ended)
                           else if before.state = .tentative ∧ after.state = .tentative then .new else .miss)
              ∧ (before.state = .free → m.assigned.get k = none ∧ told.ended = none
                  ∧ result = if after.state = .free then .none else .new)
              ∧ (told.ended.isSome = true → before.state ≠ .free ∧ ∀ a : Assigned, m.assigned.get k = some a →
                  (told.ended.map Ending.reason) = some .duplicate)
              ∧ (result = .none → before.state = .free ∧ after.state = .free)
              ∧ (result = .hit ∨ result = .sharedHit → ∃ a : Assigned, m.assigned.get k = some a
                  ∧ (result = .sharedHit ↔ a.joined = true) ∧ before.state ≠ .free
                  ∧ told.s = a.ret.ret.s ∧ told.h = a.ret.ret.h
                  ∧ after =
                      { after with
                        lastS := a.ret.ret.s, lastH := a.ret.ret.h, lastHit := scan.position
                        hits := min 65535 (before.hits + 1), rate := if a.shared then before.rate else rated a.ret.ret
                        peak := some a.ret.ret.peak, indication := some a.ret.ret.indication
                        wear := match a.ret.ret.sample with
                          | none => before.wear
                          | some w => if 5 ≤ before.wear.length then (before.wear ++ [w]).drop 1 else before.wear ++ [w]
                        coasted := if before.state = .coasting then 0 else before.coasted
                        mergedWith := (m.tracks.get k).mergedWith, previousPartner := (m.tracks.get k).mergedWith
                        state := if before.state = .tentative ∧ after.hits ≠ s.cfg.tracking.confirmHits then .tentative
                                 else .confirmed })
              ∧ (result = .miss →
                  told.s = before.lastS + roundDiv (before.rate * (scan.position - before.lastHit)) 1000
                    ∧ told.h = before.lastH
                    ∧ ((before.state = .tentative ∧ after = .empty)
                      ∨ (((before.state = .confirmed ∧ after.coasted = 0)
                          ∨ (before.state = .coasting ∧ after.coasted = min 11000 (before.coasted + travel.toNat)
                            ∧ after.coasted ≤ s.cfg.tracking.coastDistance))
                        ∧ after =
                            { before with
                              state := .coasting, coasted := after.coasted, hits := 0, peak := none, indication := none
                              mergedWith := (m.tracks.get k).mergedWith
                              previousPartner := (m.tracks.get k).mergedWith, mergedDistance := after.mergedDistance })))
              ∧ (result = .new →
                  (before.state = .free ∨ before.state = .tentative) ∧ after.state = .tentative ∧ after.hits = 1
                    ∧ after.lastHit = scan.position)
              ∧ (result = .ended → after = .empty)
              ∧ (result = .endedAndNew → before.state = .coasting ∧ after.state = .tentative ∧ after.hits = 1)
              ∧ (before.state.isWire = true → after.state.isWire = true → after.wireId = before.wireId)
              ∧ out.1.live.tracks.get k =
                  (if before.state = .free ∧ after.state = .free then s.live.tracks.get k
                   else { state := after.state, wireId := after.wireId.getD 0, stagger := roundDiv after.lastS 100
                          height := roundDiv after.lastH 100, wear := wearValue after.wear, lastHit := after.lastHit
                          peak := after.peak, indication := after.indication, mergedWith := after.mergedWith
                          fresh := true }))
    ∧ ∀ w : List WearSample, w.length ≤ 5 →
        (w.length < 3 → wearValue w = none)
          ∧ (3 ≤ w.length → ∃ sorted : List WearSample, sorted.Perm w
              ∧ sorted.Pairwise (fun x y => x.remaining ≤ y.remaining)
              ∧ wearValue w = if w.length = 5 then sorted[2]? else sorted[1]?)

/-- R91, R102, R103, R105 to R110: what a scan makes besides its hits and misses. The tracks that confirm take the next
free ids in slot order; the untaken returns start tracks in the FREE slots, lowest first, and the rest raise
TRACK_SLOTS_FULL; merged distances grow, and a pair beyond the duplicate length loses its higher slot. The events follow
the order of the steps, at the scan's stamp. -/
def Obligations.ScansConfirmStartAndEndTracks : Prop :=
  ∀ (scan : Scan) (s : State),
    let out := s.track scan
    let m := matchScan s.cfg.tracking s.mark.zone s.trk.tracks scan
    let travel : Int := if scan.position < s.trk.lastScan then 0 else scan.position - s.trk.lastScan
    let slots : List Slot := [.n0, .n1, .n2, .n3]
    let before (k : Slot) : Track := s.trk.tracks.get k
    let after (k : Slot) : Track := out.1.trk.tracks.get k
    let told (k : Slot) : SlotOutcome := out.2.slots.get k
    let wire (x : TrackState) : Bool := decide (x = .confirmed) || decide (x = .coasting)
    let advance (n : Nat) : Nat := if 65535 ≤ n then 1 else n + 1
    let held (n : Nat) : Bool := slots.any fun k => wire (before k).state && decide ((before k).wireId = some n)
    let skipHeld (n : Nat) : Nat := if held n then advance n else n
    let firstFree (n : Nat) : Nat := skipHeld (skipHeld (skipHeld (skipHeld n)))
    let confirms (k : Slot) : Bool := decide ((before k).state = .tentative) && (m.assigned.get k).isSome
      && decide (min 65535 ((before k).hits + 1) = s.cfg.tracking.confirmHits)
    let confirming := slots.filter confirms
    let ids := confirming.foldl (fun (x : List Nat × Nat) _ => (x.1 ++ [firstFree x.2], advance (firstFree x.2)))
      ([], s.trk.nextId)
    let coastedOut (k : Slot) : Bool := decide ((before k).state = .coasting) && (m.assigned.get k).isNone
      && decide (s.cfg.tracking.coastDistance < min 11000 ((before k).coasted + travel.toNat))
    let dropped (k : Slot) : Bool := decide ((before k).state = .tentative) && (m.assigned.get k).isNone
    let open_ := slots.filter fun k => decide ((before k).state = .free) || dropped k || coastedOut k
    let starting := m.indexed.filter fun r => !r.lowPeak
      && slots.all fun k => match m.assigned.get k with
        | some a => decide (a.ret.index ≠ r.index)
        | none => true
    let wired (k : Slot) : Bool := (wire (before k).state || confirms k) && !coastedOut k
    let together (j k : Slot) : Int :=
      if (before j).previousPartner = some k then (before j).mergedDistance + travel else travel
    let loses (j k : Slot) : Bool := decide ((m.tracks.get j).mergedWith = some k) && decide (j.num < k.num) && wired j
      && wired k && decide ((s.cfg.tracking.duplicateLength : Int) < together j k)
    let doubled := (slots.map fun j => (slots.filter fun k => loses j k).map fun k => (j, k)).flatten
    let idOf (k : Slot) : Nat := if wire (before k).state then (before k).wireId.getD 0
      else (((confirming.zip ids.1).find? fun p => decide (p.1 = k)).map Prod.snd).getD 0
    let lastHit (k : Slot) : Int := if (m.assigned.get k).isSome then scan.position else (before k).lastHit
    let value (k : Slot) : Int × Int := match m.assigned.get k with
      | some a => (roundDiv a.ret.ret.s 100, roundDiv a.ret.ret.h 100)
      | none => (0, 0)
    let events : List EventBody :=
      (confirming.map fun k => .trackConfirmed k (idOf k) (value k).1 (value k).2)
        ++ ((slots.filter coastedOut).map fun k => .trackEnded k (idOf k) .coastedOut (before k).lastHit none)
        ++ (doubled.map fun p => .trackEnded p.2 (idOf p.2) .duplicate (lastHit p.2) (after p.1).wireId)
    out.1.trk.nextId = ids.2
      ∧ (∀ k ∈ slots, (told k).confirmed = confirms k)
      ∧ (∀ k ∈ confirming, (∀ j ∈ slots, loses j k = false) →
          (after k).state = .confirmed ∧ (after k).wireId = some (idOf k))
      ∧ (∀ (n : Nat) (k : Slot) (r : Indexed), open_[n]? = some k → starting[n]? = some r →
          after k = { Track.empty with
            state := .tentative, lastS := r.ret.s, lastH := r.ret.h, lastHit := scan.position, hits := 1
            wear := r.ret.sample.toList, peak := some r.ret.peak, indication := some r.ret.indication })
      ∧ (∀ (n : Nat) (k : Slot), open_[n]? = some k → starting[n]? = none →
          (after k).state = .free ∧ (dropped k = true ∨ coastedOut k = true → after k = .empty))
      ∧ (∀ k ∈ slots, coastedOut k = true → (told k).ended = some { wireId := idOf k, reason := .coastedOut })
      ∧ (∀ j k : Slot, loses j k = true →
          after k = .empty ∧ (told k).ended = some { wireId := idOf k, reason := .duplicate }
            ∧ (after j).mergedDistance = 0)
      ∧ (∀ k ∈ slots, coastedOut k = false → (∀ j ∈ slots, loses j k = false) → (told k).ended = none)
      ∧ (∀ k ∈ slots, wired k = true → (∀ j ∈ slots, loses j k = false ∧ loses k j = false) →
          (after k).mergedDistance =
            match (m.tracks.get k).mergedWith with
            | some p => if wired p then together k p else 0
            | none => 0)
      ∧ { out.1 with trk := s.trk, live := s.live } =
          (starting.drop open_.length).foldl
            (fun t r => State.raise .trackSlotsFull { qualifier := 0, number := roundDiv r.ret.s 100 } t)
            (events.foldl (fun (t : State) b =>
              { t with rep := t.rep.produce s.pos (BitVec.ofNat 32 (s.clock / 4000)) scan.position b }) s)

/-! ### Spans (R113 to R135) -/

/-- R84, R113, R116, R119, R125, R128, R133, R183: what closing and opening a span do, and how a provisional span joins
the open one. A close gives the next number and the presence of each wire, drops s at close unless the reason is MAST, and
hands the record to the span queue. An opening applies a staged LINE set; when that changes the wire type, the wear
windows and the minimum remaining values are cleared and open WEAR monitors close TYPE_CHANGED. -/
def Obligations.SpansOpenJoinAndClose : Prop :=
  (∀ (reason : CloseReason) (stop : Int) (source : Source) (s : State),
      (s.span.opened = none → s.closeSpan reason stop source = s)
        ∧ ∀ r : SpanRec, s.span.opened = some r →
            let n := s.span.seq + 1
            let seen (id : Nat) (v : ViewEntry) : Bool :=
              (decide (v.state = .confirmed) || decide (v.state = .coasting)) && decide (v.wireId = some id)
            let inView (id : Nat) : Bool :=
              seen id s.span.view.e0 || seen id s.span.view.e1 || seen id s.span.view.e2 || seen id s.span.view.e3
            s.closeSpan reason stop source =
              { s with
                span := { s.span with opened := none, seq := n }
                rep := s.rep.storeSpan s.pos
                  { r with
                    seq := n, stop := stop, reason := reason, closeSource := source
                    summaries := r.summaries.map fun y =>
                      { y with presentAtClose := inView y.wireId
                               sAtClose := if reason = .mast then y.sAtClose else none } } })
    ∧ (∀ (source : Source) (r : SpanRec) (s : State),
        let line := s.cfg.stagedLine.getD s.cfg.line
        let changes := line.wireType ≠ s.cfg.line.wireType
        let cfg : Groups := { s.cfg with line := line, stagedLine := none }
        let wear (k : Slot) : List EventBody :=
          match (s.span.monitors.get k).wear with
          | none => []
          | some m => [.excClose .wear k m.wireId .typeChanged m.openPos m.peak m.peakPos (max 0 (s.pos - m.openPos))]
        let said := (if changes then wear .n0 ++ wear .n1 ++ wear .n2 ++ wear .n3 else []).foldl
          (fun q b => q.produce s.pos (BitVec.ofNat 32 (s.clock / 4000)) s.pos b) s.rep
        s.openSpan source r =
          { s with
            cfg := cfg
            trk := if changes then { s.trk with tracks := s.trk.tracks.map fun t => { t with wear := [] } } else s.trk
            span := { s.span with
                      monitors := if changes then s.span.monitors.map fun m => { m with wear := none }
                                  else s.span.monitors
                      opened := some { r with
                        run := s.run.number, openSource := source, wireType := line.wireType
                        wireCode := cfg.wireTypeInForce.code, spanMin := line.spanMin, spanMax := line.spanMax
                        uncalibrated := r.uncalibrated || !s.cal.valid
                        summaries := if changes then r.summaries.map fun y => { y with minRemaining := none }
                                     else r.summaries } }
            rep := { said with faults := said.faults.map fun f => { f with spanMark := false } } })
    ∧ ∀ o p : SpanRec,
        let add (a b : Nat) : Nat := min 65535 (a + b)
        let widest (x y : Extremes) : Extremes :=
          { sMin := min x.sMin y.sMin, sMax := max x.sMax y.sMax, hMin := min x.hMin y.hMin, hMax := max x.hMax y.hMax }
        let extremes (x y : Option Extremes) : Option Extremes := match x, y with
          | some a, some b => some (widest a b)
          | some a, none => some a
          | none, b => b
        let lowest (x y : Option MinRemaining) : Option MinRemaining := match x, y with
          | some a, some b => if b.height < a.height then some b else some a
          | some a, none => some a
          | none, b => b
        let join (r : SpanRec) (y : Summary) : SpanRec :=
          if ∃ x ∈ r.summaries, x.wireId = y.wireId then
            { r with
              summaries := r.summaries.map fun x =>
                if x.wireId = y.wireId then
                  { x with
                    lastPos := y.lastPos, hits := add x.hits y.hits, coasted := add x.coasted y.coasted
                    excOpened := add x.excOpened y.excOpened, extremes := extremes x.extremes y.extremes
                    minRemaining := lowest x.minRemaining y.minRemaining }
                else x }
          else if r.summaries.length < 6 then
            { r with summaries := r.summaries ++ [{ y with presentAtOpen := false, sAtOpen := none }] }
          else { r with truncated := true }
        let joined := p.summaries.foldl join
          { o with
            scans := add o.scans p.scans, degraded := add o.degraded p.degraded, skipped := add o.skipped p.skipped
            ignored := add o.ignored p.ignored, rejected := add o.rejected p.rejected
            overlapSeen := o.overlapSeen || p.overlapSeen, extraWire := o.extraWire || p.extraWire
            uncalibrated := o.uncalibrated || p.uncalibrated, truncated := o.truncated || p.truncated }
        mergeSpans o p = { joined with summaries := joined.summaries.map fun y => { y with sAtClose := none } }

/-- R115, R116, R121, R123, R124, R126, R127, R129, R134, R141: what the mast source's reports, the span maximum and a run
transition do to the open span, the provisional span and the queues. A MAST event has the position held (log entry 18). -/
def Obligations.MastCandidatesCutTheSpans : Prop :=
  ∀ s : State,
    let time := BitVec.ofNat 32 (s.clock / 4000)
    let acting := s.run.state = .armed ∨ s.run.state = .measuring
    let blank (at_ : Int) : SpanRec :=
      { seq := 0, gap := 0, run := 0, start := at_, stop := 0, reason := .mast, openSource := .none, closeSource := .none
        wireType := 0, wireCode := 0, spanMin := 0, spanMax := 0, overlapSeen := false, extraWire := false
        uncalibrated := false, truncated := false, scans := 0, degraded := 0, skipped := 0, ignored := 0, rejected := 0
        summaries := [] }
    let long (stop : Int) (t : State) : State := State.openSpan .none (blank stop) (t.closeSpan .longSpan stop .none)
    let rejoined (r p : SpanRec) : State :=
      let m := mergeSpans r p
      { s with
        span := { s.span with
                  opened := some { m with rejected := min 65535 (m.rejected + 1) }, provisional := none
                  candidate := none } }
    let reach : Nat := match s.cfg.markers.mast with
      | .mk1 => s.cfg.markers.qualify.e0
      | .mk2 => s.cfg.markers.qualify.e1
      | .either => max s.cfg.markers.qualify.e0 s.cfg.markers.qualify.e1
      | .both => max s.cfg.markers.qualify.e0 s.cfg.markers.qualify.e1
    (∀ (at_ : Int) (src : Source),
        let short := ∃ r : SpanRec, s.span.opened = some r ∧ at_ - r.start < (r.spanMin : Int) * 1000
        (¬ acting → s.candidateAsserted at_ src = s)
          ∧ (acting → ¬ short → s.candidateAsserted at_ src =
              { s with
                span := { s.span with
                          candidate := some { position := at_, source := src, longDue := false }
                          provisional := some (blank at_) } })
          ∧ ∀ r : SpanRec, acting → s.span.opened = some r → at_ - r.start < (r.spanMin : Int) * 1000 →
              s.candidateAsserted at_ src =
                { s with
                  span := { s.span with opened := some { r with ignored := min 65535 (r.ignored + 1) } }
                  rep := s.rep.produce s.pos time s.pos (.mast .ignored at_ src none none) })
      ∧ (∀ src : Source,
          (¬ acting ∨ s.span.candidate = none → s.candidateQualified src = s)
            ∧ ∀ (c : Candidate) (p : SpanRec), s.span.candidate = some c → s.span.provisional = some p →
                let closed := s.closeSpan .mast c.position src
                let opened := State.openSpan src p
                  { closed with span := { closed.span with provisional := none, candidate := none } }
                let said : State :=
                  { opened with
                    rep := opened.rep.produce s.pos time s.pos
                      (.mast .qualified c.position src (some s.pos) (s.span.opened.map fun _ => s.span.seq + 1)) }
                (s.run.state = .measuring → s.candidateQualified src = said)
                  ∧ (s.run.state = .armed → s.candidateQualified src =
                      { said with
                        span := { said.span with watchArmed := true, watchRef := s.pos }
                        run := { state := .measuring, number := s.run.number, cause := some .firstMast, causeFault := none }
                        rep := { said.rep.produce s.pos time s.pos
                                   (.runState .armed .measuring .firstMast s.run.number none none none) with
                                 runCause := true } }))
      ∧ (s.span.candidate = none → s.candidateFailed = s)
      ∧ (∀ (c : Candidate) (p : SpanRec), s.span.candidate = some c → s.span.provisional = some p →
          (s.run.state = .armed → s.span.opened = none →
              s.candidateFailed = { s with span := { s.span with provisional := none, candidate := none } })
            ∧ ∀ r : SpanRec, s.run.state = .measuring → s.span.opened = some r →
                (c.longDue = false → s.candidateFailed = rejoined r p)
                  ∧ (c.longDue = true →
                      s.candidateFailed = long (max s.pos (r.start + (r.spanMax : Int) * 1000)) (rejoined r p)))
      ∧ (s.run.state ≠ .measuring ∨ s.span.opened = none → s.checkSpanMaximum = s)
      ∧ (∀ r : SpanRec, s.run.state = .measuring → s.span.opened = some r →
          let limit := r.start + (r.spanMax : Int) * 1000
          (s.pos < limit → s.checkSpanMaximum = s)
            ∧ (limit ≤ s.pos → s.span.candidate = none → s.checkSpanMaximum = long limit s)
            ∧ ∀ (c : Candidate) (p : SpanRec), limit ≤ s.pos → s.span.candidate = some c → s.span.provisional = some p →
                (s.pos < limit + reach → s.checkSpanMaximum =
                    { s with span := { s.span with candidate := some { c with longDue := true } } })
                  ∧ (limit + reach ≤ s.pos → s.checkSpanMaximum = long (limit + reach) (rejoined r p)))
      ∧ ∀ (reason : CloseReason) (stop : Int),
          let folded : State :=
            { s with
              span := { s.span with
                        opened := match s.span.opened, s.span.provisional with
                          | some r, some p => some (mergeSpans r p)
                          | some r, none => some r
                          | none, _ => none
                        provisional := none, candidate := none } }
          let closed := folded.closeSpan reason stop .none
          let kinds (m : Monitors) : List (MonitorKind × Option Monitor) :=
            [(.stagger, m.stagger), (.heightLow, m.heightLow), (.wear, m.wear)]
          let closes (k : Slot) : List EventBody := (kinds (s.span.monitors.get k)).filterMap fun q =>
            q.2.map fun m => .excClose q.1 k m.wireId .runEnd m.openPos m.peak m.peakPos (max 0 (s.pos - m.openPos))
          s.tearDownSpans reason stop =
            { closed with
              span := { closed.span with
                        monitors := Four.const .closed, watchArmed := false, watchRef := 0
                        view := Four.const { state := .free, wireId := none } }
              rep := (closes .n0 ++ closes .n1 ++ closes .n2 ++ closes .n3).foldl
                (fun q b => q.produce s.pos time s.pos b) closed.rep }

/-- R110, R117 to R119, R122, R135: the Span Builder's accumulation of an outcome, the first of its parts of a scan: the
wire view follows, the target is chosen by the stamp, its counts and flags change, each contributing wire joins its
summary in slot order, and the first scan captures the registration stagger. That scans merged back from a failed
candidate count as accumulated is the model's choice (log entry 41). -/
def Obligations.ScansAccumulateIntoTheirSpan : Prop :=
  (∀ (o : Outcome) (s : State), s.takeOutcome o =
      State.watchWires o (State.testMonitors o
        { s with span := s.span.accumulate o s.mark.zone s.cfg.line.wiresPerLine }))
    ∧ ∀ (o : Outcome) (zone : Bool) (wires : Nat) (b : SpanBuilder),
        let at_ := o.scan.position
        let slots := [o.slots.e0, o.slots.e1, o.slots.e2, o.slots.e3]
        let wire (x : SlotOutcome) : Bool := decide (x.track.state = .confirmed) || decide (x.track.state = .coasting)
        let hit (x : SlotOutcome) : Bool := decide (x.result = .hit) || decide (x.result = .sharedHit)
        let giving := slots.filter fun x => wire x && (hit x || decide (x.result = .miss))
        let id (x : SlotOutcome) : Nat := x.track.wireId.getD 0
        let confirmed := (slots.filter fun x => decide (x.track.state = .confirmed)).length
        let lowest (w : Option WearSample) (m : Option MinRemaining) : Option MinRemaining := match w, m with
          | none, m => m
          | some v, none => some { height := v.remaining, position := at_ }
          | some v, some y => if v.remaining < y.height then some { height := v.remaining, position := at_ } else some y
        let widened (s h : Int) (e : Option Extremes) : Extremes := match e with
          | none => { sMin := s, sMax := s, hMin := h, hMax := h }
          | some e => { sMin := min e.sMin s, sMax := max e.sMax s, hMin := min e.hMin h, hMax := max e.hMax h }
        let taken (x : SlotOutcome) (y : Summary) : Summary :=
          { y with
            lastPos := at_
            hits := if hit x then min 65535 (y.hits + 1) else y.hits
            coasted := if hit x then y.coasted else min 65535 (y.coasted + 1)
            extremes := if hit x then some (widened (roundDiv x.s 100) (roundDiv x.h 100) y.extremes) else y.extremes
            minRemaining := lowest (wearValue x.track.wear) y.minRemaining }
        let join (present : Bool) (r : SpanRec) (x : SlotOutcome) : SpanRec :=
          if ∃ y ∈ r.summaries, y.wireId = id x then
            { r with summaries := r.summaries.map fun y => if y.wireId = id x then taken x y else y }
          else if r.summaries.length < 6 then
            { r with
              summaries := r.summaries ++ [taken x
                { wireId := id x, presentAtOpen := present, presentAtClose := false, firstPos := at_, lastPos := at_
                  hits := 0, coasted := 0, extremes := none, sAtOpen := none, sAtClose := none, minRemaining := none
                  excOpened := 0 }] }
          else { r with truncated := true }
        let scanned (present : Bool) (r : SpanRec) : SpanRec :=
          giving.foldl (join present)
            { r with
              scans := min 65535 (r.scans + 1)
              degraded := min 65535 (r.degraded + if o.scan.flags.degraded then 1 else 0)
              uncalibrated := r.uncalibrated || o.scan.flags.uncalibrated, overlapSeen := r.overlapSeen || zone
              extraWire := r.extraWire || (!zone && decide (wires < confirmed)) }
        let stagger (x : SlotOutcome) : Registration := { value := roundDiv x.s 100, predicted := !hit x }
        let atOpen (r : SpanRec) : SpanRec := giving.foldl (fun r x =>
          { r with
            summaries := r.summaries.map fun y =>
              if y.wireId = id x then { y with sAtOpen := some (stagger x), presentAtOpen := true } else y }) r
        let atClose (r : SpanRec) : SpanRec := giving.foldl (fun r x =>
          { r with
            summaries := r.summaries.map fun y =>
              if y.wireId = id x then { y with sAtClose := some (stagger x) } else y }) r
        let seen : SpanBuilder :=
          { b with view := o.slots.map fun x => { state := x.track.state, wireId := x.track.wireId } }
        let behind := ∀ c : Candidate, b.candidate = some c → at_ < c.position
        (∀ (c : Candidate) (p : SpanRec), b.candidate = some c → c.position ≤ at_ → b.provisional = some p →
            b.accumulate o zone wires =
              { seen with
                provisional := some (if p.scans = 0 then atOpen (scanned false p) else scanned false p)
                opened := if p.scans = 0 then b.opened.map atClose else b.opened })
          ∧ (∀ r : SpanRec, behind → b.opened = some r →
              b.accumulate o zone wires =
                { seen with
                  opened := some
                    (if r.scans = 0 then
                      (if r.openSource = .none then scanned true r else atOpen (scanned false r))
                     else scanned false r) })
          ∧ (behind → b.opened = none → b.accumulate o zone wires = seen)

/-- R130 to R134: the limit monitors and the wire-loss watch at an outcome. The monitors of an ended slot close
TRACK_ENDED; then, in MEASURING, each slot with a hit contribution tests STAGGER, HEIGHT_LOW and WEAR in that order: a
CLOSED monitor may open with EXC_OPEN at the scan's stamp (log entry 18), an OPEN one takes the value into its peak and
may close RETURNED, with its event at the position held. The watch raises WIRE_LOSS, with the distance in whole metres,
when it exceeds the wire-loss distance. -/
def Obligations.MonitorsAndWireLossFollowTheScan : Prop :=
  ∀ (o : Outcome) (s : State),
    let at_ := o.scan.position
    let time := BitVec.ofNat 32 (s.clock / 4000)
    let emitted (es : List PlacedEvent) : Report := es.foldl (fun q e => q.produce s.pos time e.position e.body) s.rep
    let kinds (m : Monitors) : List (MonitorKind × Option Monitor) :=
      [(.stagger, m.stagger), (.heightLow, m.heightLow), (.wear, m.wear)]
    let gone (k : Slot) : Bool := (o.slots.get k).ended.isSome
    let forced (k : Slot) : List PlacedEvent :=
      if gone k then (kinds (s.span.monitors.get k)).filterMap fun q => q.2.map fun m =>
        { position := at_
          body := .excClose q.1 k m.wireId .trackEnded m.openPos m.peak m.peakPos (max 0 (at_ - m.openPos)) }
      else []
    s.closeEndedMonitors o =
        { s with
          rep := emitted (forced .n0 ++ forced .n1 ++ forced .n2 ++ forced .n3)
          span := { s.span with
                    monitors := ⟨if gone .n0 then .closed else s.span.monitors.e0,
                                 if gone .n1 then .closed else s.span.monitors.e1,
                                 if gone .n2 then .closed else s.span.monitors.e2,
                                 if gone .n3 then .closed else s.span.monitors.e3⟩ } }
      ∧ s.testMonitors o =
          (if s.run.state = .measuring then
            State.testSlotMonitors o (State.testSlotMonitors o (State.testSlotMonitors o (State.testSlotMonitors o
              (s.closeEndedMonitors o) .n0) .n1) .n2) .n3
           else s.closeEndedMonitors o)
      ∧ (∀ k : Slot,
          let x := o.slots.get k
          let hit := (x.track.state = .confirmed ∨ x.track.state = .coasting) ∧ (x.result = .hit ∨ x.result = .sharedHit)
          let id := x.track.wireId.getD 0
          let line := s.cfg.line
          let next (kind : MonitorKind) (old : Option Monitor) (v : Int) (opens closes : Bool) (further : Int → Bool) :
              Option Monitor × List PlacedEvent :=
            match old with
            | none =>
              if opens then
                (some { wireId := id, openPos := at_, peak := v, peakPos := at_ },
                  [{ position := at_, body := .excOpen kind k id v }])
              else (none, [])
            | some m =>
              let y : Monitor := if further m.peak then { m with peak := v, peakPos := at_ } else m
              if closes then
                (none, [{ position := s.pos
                          body := .excClose kind k y.wireId .returned y.openPos y.peak y.peakPos
                            (max 0 (at_ - y.openPos)) }])
              else (some y, [])
          let m := s.span.monitors.get k
          let sv := roundDiv x.s 100
          let hv := roundDiv x.h 100
          let a := next .stagger m.stagger sv (!s.mark.zone && decide (line.staggerLimit * 1000 < x.s.natAbs))
            (decide ((x.s.natAbs : Int) ≤ ((line.staggerLimit : Int) - line.staggerHyst) * 1000))
            (fun p => decide (p.natAbs < sv.natAbs))
          let b := next .heightLow m.heightLow hv (decide (x.h < (line.heightLow : Int) * 1000))
            (decide (((line.heightLow : Int) + line.heightHyst) * 1000 ≤ x.h)) (fun p => decide (hv < p))
          let c : Option Monitor × List PlacedEvent := match wearValue x.track.wear with
            | none => (m.wear, [])
            | some w =>
              let least := match w.wireType with
                | 0 => s.cfg.wireTypes.e0.minRemaining
                | 1 => s.cfg.wireTypes.e1.minRemaining
                | 2 => s.cfg.wireTypes.e2.minRemaining
                | _ => s.cfg.wireTypes.e3.minRemaining
              next .wear m.wear w.remaining (decide (w.remaining < least)) (decide (least + line.wearHyst ≤ w.remaining))
                (fun p => decide ((w.remaining : Int) < p))
          let opened : Nat := (if m.stagger.isNone && a.1.isSome then 1 else 0)
            + (if m.heightLow.isNone && b.1.isSome then 1 else 0) + (if m.wear.isNone && c.1.isSome then 1 else 0)
          let bump (r : SpanRec) : SpanRec :=
            { r with
              summaries := r.summaries.map fun y =>
                if y.wireId = id then { y with excOpened := min 65535 (y.excOpened + opened) } else y }
          let inProvisional := match s.span.candidate with
            | some c => decide (c.position ≤ at_)
            | none => false
          (¬ hit → s.testSlotMonitors o k = s)
            ∧ (hit → s.testSlotMonitors o k =
                { s with
                  rep := emitted (a.2 ++ b.2 ++ c.2)
                  span := { s.span with
                            monitors := s.span.monitors.set k { stagger := a.1, heightLow := b.1, wear := c.1 }
                            provisional := if inProvisional then s.span.provisional.map bump else s.span.provisional
                            opened := if inProvisional then s.span.opened else s.span.opened.map bump } }))
      ∧ (s.run.state ≠ .measuring → s.watchWires o = s)
      ∧ (s.run.state = .measuring →
          let slots := [o.slots.e0, o.slots.e1, o.slots.e2, o.slots.e3]
          let confirms := slots.any fun x => x.confirmed
          let count := (slots.filter fun x => decide (x.track.state = .confirmed)).length
          let armed := s.span.watchArmed || confirms
          let ref := if confirms = true ∨ 1 ≤ count then at_ else s.span.watchRef
          let lost := armed = true ∧ count = 0 ∧ (s.cfg.line.wireLoss : Int) * 1000 < at_ - ref
          (¬ lost → s.watchWires o = { s with span := { s.span with watchArmed := armed, watchRef := ref } })
            ∧ (lost → s.watchWires o =
                State.raise .wireLoss { qualifier := 0, number := (at_ - ref) / 1000 }
                  { s with span := { s.span with watchArmed := false, watchRef := ref } }))

/-! ### Markers (R50 to R57) -/

/-- R50 to R52, R57: a change of a marker input starts its 30 µs filter or, with debounce off, is accepted at once; the
filter accepts the level that has held. In the run states other than STOPPED an accepted rise asserts an IDLE channel,
which goes to PENDING with its target and, with a distance of 0, on to QUALIFIED; a fall makes the channel IDLE, from
PENDING with a failure and from QUALIFIED with a release. Assertion, qualification, failure and release go to the
channel's user (statement ChannelsServeTheirUsers). OPERATOR_MARK produces its event. With no filter time running an
expiry has no effect (log entry 3). -/
def Obligations.MarkersAreFilteredAndAsserted : Prop :=
  (∀ (m : Marker) (s : State),
      let c := s.mark.channels.get m
      let q := s.cfg.markers.qualify.get m
      let flipped := !(s.pins.markers.get m)
      let accepted (level : Bool) : Channel := { c with filter := { accepted := some level, due := none } }
      let acted (level : Bool) : Channel :=
        if level then
          (if c.state = .idle then
            { accepted true with
              state := if q = 0 then .qualified else .pending, assertedAt := s.pos, target := s.pos + (q : Int) }
           else accepted true)
        else { accepted false with state := .idle }
      let changed : State := { s with pins := { s.pins with markers := s.pins.markers.set m flipped } }
      let put (d : Channel) (t : State) : State := { t with mark := { t.mark with channels := t.mark.channels.set m d } }
      let told (level : Bool) (base : State) : State :=
        if level then
          (if c.state = .idle then
            (let u := State.handAssertion m
               (put { accepted true with state := .pending, assertedAt := s.pos, target := s.pos + (q : Int) } base)
             if q = 0 then (put { u.mark.channels.get m with state := .qualified } u).handQualification m else u)
           else put (accepted true) base)
        else
          (let u := put { accepted false with state := .idle } base
           if c.state = .pending then u.handFailure m else if c.state = .qualified then u.handRelease m else u)
      let toUser (level : Bool) (base : State) (o : Host.Outcome State Fault Refusal) : Prop :=
        o = .next (told level base).settle
          ∧ ∃ t : State, o = .next t ∧ t.mark.channels = s.mark.channels.set m (acted level) ∧ t.odo = s.odo
              ∧ t.expo = s.expo ∧ t.att = s.att ∧ t.cal = s.cal ∧ t.heads = s.heads ∧ t.table = s.table
      (c.filter.accepted = none ∨ s.cfg.markers.debounce.get m = true →
          exec (.markerInputChange m) s =
            .next (State.settle (put
              { c with
                filter := { c.filter with
                            due := if c.filter.accepted = some flipped then none else some (s.clock + 120) } } changed)))
        ∧ (c.filter.accepted ≠ none → s.cfg.markers.debounce.get m = false →
            (c.filter.accepted = some flipped ∨ s.run.state = .stopped →
                exec (.markerInputChange m) s = .next (State.settle (put (accepted flipped) changed)))
              ∧ (c.filter.accepted = some (!flipped) → s.run.state ≠ .stopped →
                  toUser flipped changed (exec (.markerInputChange m) s)))
        ∧ (c.filter.due = none → exec (.markerDebounceExpiry m) s = .next s.settle)
        ∧ ∀ due : Nat, c.filter.due = some due →
            let level := s.pins.markers.get m
            (c.filter.accepted ≠ some (!level) ∨ s.run.state = .stopped →
                exec (.markerDebounceExpiry m) s =
                  .next (State.settle (put (accepted level) { s with clock := max s.clock due })))
              ∧ (c.filter.accepted = some (!level) → s.run.state ≠ .stopped →
                  toUser level { s with clock := max s.clock due } (exec (.markerDebounceExpiry m) s)))
    ∧ ∀ (s : State) (code : Byte), s.takesRequests → s.run.state ≠ .stopped →
        exec (.operatorMark [code]) s =
          .next (State.settle
            { s.answered 0x88 [0] with
              rep := s.rep.produce s.pos (BitVec.ofNat 32 (s.clock / 4000)) s.pos (.operatorMark code) })

/-- R51, R53 to R57: what the users of the channels do. The mast source follows its members by its setting: a candidate
asserted, qualified or failed goes to the Span Builder (statement MastCandidatesCutTheSpans), a failure in ARMED and
MEASURING alone. MK3 drives the overlap zone by its mode, with an event at each change; MK4 produces SITE_MARK with site
marks on. At a change of position outside STOPPED each PENDING channel, in order, qualifies at its target. That a release
with the signal PENDING under MK1, MK2 or MK1_OR_MK2 counts as a failure is the model's choice (log entry 30). -/
def Obligations.ChannelsServeTheirUsers : Prop :=
  ∀ s : State,
    let set := s.cfg.markers.mast
    let time := BitVec.ofNat 32 (s.clock / 4000)
    let up (c : ChannelState) : Bool := decide (c = .pending) || decide (c = .qualified)
    let one := s.mark.channels.e0.state
    let two := s.mark.channels.e1.state
    let named (m : Marker) : Source := if m = .n0 then .mk1 else .mk2
    let start (at_ : Int) (src : Source) : State :=
      State.candidateAsserted at_ src
        { s with mark := { s.mark with mast := { state := .pending, candidate := at_, source := src } } }
    let qualify (src : Source) : State :=
      State.candidateQualified src
        { s with mark := { s.mark with mast := { s.mark.mast with state := .qualified, source := src } } }
    let ended : State := { s with mark := { s.mark with mast := { state := .idle, candidate := 0, source := .none } } }
    let failed : State :=
      if s.run.state = .armed ∨ s.run.state = .measuring then ended.candidateFailed else ended
    let zone (z : Bool) : State :=
      if s.mark.zone = z then s
      else { s with
             mark := { s.mark with zone := z }
             rep := s.rep.produce s.pos time s.pos (if z then .overlapBegin else .overlapEnd) }
    (∀ m : Marker,
        let member := (m = .n0 ∧ set ≠ .mk2) ∨ (m = .n1 ∧ set ≠ .mk1)
        let at_ := (s.mark.channels.get m).assertedAt
        (¬ member → s.handAssertion m = s ∧ s.handFailure m = s
            ∧ (m = .n0 ∨ m = .n1 → s.handQualification m = s ∧ s.handRelease m = s))
          ∧ (member →
              (s.mark.mast.state ≠ .idle → s.handAssertion m = s)
                ∧ (s.mark.mast.state = .idle → set ≠ .both → s.handAssertion m = start at_ (named m))
                ∧ (s.mark.mast.state = .idle → set = .both →
                    s.handAssertion m = if up one && up two then start at_ .both else s)
                ∧ (s.mark.mast.state ≠ .pending → s.handQualification m = s)
                ∧ (s.mark.mast.state = .pending → set = .mk1 ∨ set = .mk2 → s.handQualification m = qualify (named m))
                ∧ (s.mark.mast.state = .pending → set = .either →
                    s.handQualification m = qualify (if up one && up two then .both else named m))
                ∧ (s.mark.mast.state = .pending → set = .both →
                    s.handQualification m = if one = .qualified ∧ two = .qualified then qualify .both else s)
                ∧ s.handRelease m = s.handFailure m
                ∧ s.handFailure m =
                    if set = .either ∧ (up one || up two) = true then s
                    else match s.mark.mast.state with
                      | .idle => s
                      | .pending => failed
                      | .qualified => ended))
      ∧ (match s.cfg.markers.overlap with
          | .off => s.handQualification .n2 = s ∧ s.handRelease .n2 = s
          | .level => s.handQualification .n2 = zone true ∧ s.handRelease .n2 = zone false
          | .toggle => s.handQualification .n2 = zone (!s.mark.zone) ∧ s.handRelease .n2 = s)
      ∧ s.handQualification .n3 =
          (if s.cfg.markers.siteMarks then
            { s with rep := s.rep.produce s.pos time s.pos (.siteMark s.mark.channels.e3.assertedAt) }
           else s)
      ∧ s.handRelease .n3 = s
      ∧ (s.run.state = .stopped → s.checkChannels = s)
      ∧ (s.run.state ≠ .stopped →
          let act (t : State) (m : Marker) : State :=
            let c := t.mark.channels.get m
            if c.state = .pending ∧ c.target ≤ t.pos then
              State.handQualification m
                { t with mark := { t.mark with channels := t.mark.channels.set m { c with state := .qualified } } }
            else t
          s.checkChannels = act (act (act (act s .n0) .n1) .n2) .n3)

/-! ### Attitude and temperature (R59 to R70) -/

/-- R59 to R65: the forward conversion's code is kept and the reversed one begins. Its end completes the reading of VL, VR
or LAT: half the difference, with its time, or nothing kept and ATT_OVERRANGE when either code stands at an end; live slot
1 follows, and the next reading of the schedule begins at the OSR in force. A snapshot holds roll, bounce and lateral
shift of the three latest readings, each clamped, and is FRESH, STALE or NONE by the age of the oldest. -/
def Obligations.AttitudeReadingsComplete : Prop :=
  (∀ (code : BitVec 24) (s : State),
     let now := max s.clock s.att.due
     let next := match s.att.channel with
       | .vl => (AdcChannel.vr, s.att.round)
       | .vr => (AdcChannel.lat, s.att.round)
       | .lat => if s.att.round < 64 then (AdcChannel.vl, s.att.round + 1) else (AdcChannel.temp, s.att.round)
       | .temp => (AdcChannel.vl, 1)
     let begun (a : Attitude) : Attitude :=
       { a with
         channel := next.1, round := next.2, first := none, osr := s.cfg.attitude.osr
         due := now + 16 * s.cfg.attitude.osr }
     let shown (a : Attitude) : LiveAttitude :=
       let j := judgeSnapshot s.cal.work s.cfg.attitude.maxAge (now / 4) a
       { snapshot := j.snapshot, ageMs := j.ageMs, ageCase := j.ageCase, discardedVL := a.vl.discarded
         discardedVR := a.vr.discarded, discardedLAT := a.lat.discarded, fresh := true }
     let put (f : AttChannel → AttChannel) : Attitude := match s.att.channel with
       | .vl => { s.att with vl := f s.att.vl }
       | .vr => { s.att with vr := f s.att.vr }
       | .lat => { s.att with lat := f s.att.lat }
       | .temp => s.att
     (s.att.first = none → exec (.adcConversionDone code) s =
         .next (State.settle
           { s with clock := now, att := { s.att with first := some code.toInt, due := now + 16 * s.att.osr } }))
       ∧ ∀ first : Int, s.att.first = some first → s.att.channel ≠ .temp →
           let outside := first = -8388608 ∨ first = 8388607 ∨ code.toInt = -8388608 ∨ code.toInt = 8388607
           let diff := first - code.toInt
           let half := if 0 ≤ diff then (diff + 1) / 2 else -((1 - diff) / 2)
           let good := put fun _ => { good := some { value := half, time := now / 4 }, discarded := false }
           let bad := put fun c => { c with discarded := true }
           let number := match s.att.channel with
             | .vl => 0
             | .vr => 1
             | .lat => 2
             | .temp => 3
           (¬ outside → exec (.adcConversionDone code) s =
               .next (State.settle
                 { s with clock := now, att := begun good, live := { s.live with attitude := shown good } }))
             ∧ (outside → exec (.adcConversionDone code) s =
                 .next (State.settle
                   (let t := State.raise .attOverrange { qualifier := number, number := 0 } { s with clock := now }
                    { t with att := begun bad, live := { s.live with attitude := shown bad } }))))
    ∧ ∀ (c : CalFields) (maxAge now : Nat) (a : Attitude),
        let d (gain zero v : Int) : Int := roundDiv ((v - zero) * gain) 65536
        (∀ vl vr lat : Reading, a.vl.good = some vl → a.vr.good = some vr → a.lat.good = some lat →
            let dL := d c.gainVL c.zeroVL vl.value
            let dR := d c.gainVR c.zeroVR vr.value
            let age := now - min vl.time (min vr.time lat.time)
            let held : Snapshot :=
              { roll := max (-50000) (min 50000 (roundDiv ((dL - dR) * 1000) c.spacing))
                bounce := max (-100000) (min 100000 (roundDiv (dL + dR) 2))
                lateral := max (-100000) (min 100000 (d c.gainLAT c.zeroLAT lat.value)) }
            judgeSnapshot c maxAge now a =
              { snapshot := if age ≤ 1000 * maxAge ∨ age ≤ 200000 then held else { roll := 0, bounce := 0, lateral := 0 }
                ageCase := if age ≤ 1000 * maxAge then .fresh else if age ≤ 200000 then .stale else .none
                ageMs := min 65535 (age / 1000) })
          ∧ (a.vl.good = none ∨ a.vr.good = none ∨ a.lat.good = none →
              judgeSnapshot c maxAge now a =
                { snapshot := { roll := 0, bounce := 0, lateral := 0 }, ageCase := .none, ageMs := 65535 })

/-- R60, R66 to R69, R193: a TEMP reading completes with its temperature, refused with TEMP_RANGE outside −40 to 85 °C and
with ATT_OVERRANGE when either code stands at an end, the beam temperature then held; live slot 2 follows. CAL_TEMPERATURE
is held until then: a good reading of at least 1 becomes the new calibration point and is the beam temperature, any other
answers BAD_VALUE with index 0 (log entry 36). The layout of the replies is log entry 15. -/
def Obligations.TemperatureReadingsComplete : Prop :=
  ∀ s : State,
    (s.takesRequests → s.run.state = .stopped → ∀ reference : Int, within (-4000) 8500 reference →
        exec (.calTemperature (toBytes 2 reference)) s =
          .next (State.settle
            { s with
              att := { s.att with calTemp := some reference }
              link := { s.link with receiver := .hunting, handling := .heldForTemperature } }))
      ∧ (s.takesRequests → s.run.state = .stopped → ∀ reference : Int, within (-32768) 32767 reference →
          ¬ within (-4000) 8500 reference →
          exec (.calTemperature (toBytes 2 reference)) s = .next (s.answered 0x92 [3, 0]).settle)
      ∧ ∀ (code : BitVec 24) (first : Int), s.att.first = some first → s.att.channel = .temp →
          let now := max s.clock s.att.due
          let outside := first = -8388608 ∨ first = 8388607 ∨ code.toInt = -8388608 ∨ code.toInt = 8388607
          let diff := first - code.toInt
          let reading := if 0 ≤ diff then (diff + 1) / 2 else -((1 - diff) / 2)
          let degrees (c : CalFields) : Int := roundDiv (reading * c.tRef) c.codeRef - 27315
          let strain (c : CalFields) (t : Int) : Int := max (-2000) (min 2000 (roundDiv (c.alpha * (t - c.t0)) 100))
          let done (a : Attitude) (c : CalFields) (t : State) : State :=
            { t with
              att := { a with
                       channel := .vl, round := 1, first := none, osr := s.cfg.attitude.osr
                       due := now + 16 * s.cfg.attitude.osr }
              live := { s.live with
                        temp := { temperature := a.beam.getD c.t0, strain := strain c (a.beam.getD c.t0), held := a.held
                                  fresh := true } } }
          let at_ : State := { s with clock := now }
          (s.att.calTemp = none → ¬ outside → within (-4000) 8500 (degrees s.cal.work) →
              exec (.adcConversionDone code) s =
                .next (State.settle (done
                  { s.att with temp := some reading, beam := some (degrees s.cal.work), held := false } s.cal.work at_)))
            ∧ (s.att.calTemp = none → ¬ outside → ¬ within (-4000) 8500 (degrees s.cal.work) →
                exec (.adcConversionDone code) s =
                  .next (State.settle (done { s.att with temp := some reading, held := true } s.cal.work
                    (at_.raise .tempRange { qualifier := 0, number := degrees s.cal.work }))))
            ∧ (s.att.calTemp = none → outside →
                exec (.adcConversionDone code) s =
                  .next (State.settle (done { s.att with held := true } s.cal.work
                    (at_.raise .attOverrange { qualifier := 3, number := 0 }))))
            ∧ (∀ reference : Int, s.att.calTemp = some reference → within (-4000) 8500 reference → ¬ outside → 1 ≤ reading →
                let work : CalFields := { s.cal.work with codeRef := reading, tRef := reference + 27315 }
                exec (.adcConversionDone code) s =
                  .next (State.settle (done
                    { s.att with temp := some reading, beam := some reference, held := false, calTemp := none } work
                    { at_ with
                      cal := { s.cal with work := work, modified := true }
                      link := { s.link with
                                handling := .openForRequests
                                slot := some { kind := 0x92, payload := 0 :: toBytes 4 reading } } })))
            ∧ (∀ reference : Int, s.att.calTemp = some reference → outside ∨ reading < 1 → ∃ t : State,
                exec (.adcConversionDone code) s = .next t ∧ t.att.calTemp = none ∧ t.cal = s.cal
                  ∧ t.link.handling = .openForRequests
                  ∧ (s.link.tx ≠ none → t.link.slot = some { kind := 0x92, payload := [3, 0] }))

/-! ### Reading what the part holds (R150, R153, R155 to R159, R186, R188) -/

/-- R156: READ_LIVE answers the slots from the first to the lesser of the last asked for and 7, and clears their fresh
flags. R150, R153: a fetch answers the oldest records or events, up to the maximum asked for and what the reply has room
for, and they leave their queue; an in-flight record stays. -/
def Obligations.ReadsAndFetchesTakeWhatTheyAnswer : Prop :=
  (∀ (first count : Byte) (s : State), s.takesRequests →
      (first.toNat ≤ 7 → count ≠ 0 →
          let last := min 7 (first.toNat + count.toNat - 1)
          let slots := (List.range (last + 1 - first.toNat)).map fun n => first.toNat + n
          let left (n : Nat) (fresh : Bool) : Bool := fresh && !decide (first.toNat ≤ n ∧ n ≤ last)
          exec (.readLive [first, count]) s =
            .next (State.settle
              { s.answered 0x89
                  ([0, first] ++ toBytes 1 (last + 1 - first.toNat : Nat) ++ (slots.map s.live.slotBytes).flatten) with
                live := { travel := { s.live.travel with fresh := left 0 s.live.travel.fresh }
                          attitude := { s.live.attitude with fresh := left 1 s.live.attitude.fresh }
                          temp := { s.live.temp with fresh := left 2 s.live.temp.fresh }
                          expo := { s.live.expo with fresh := left 3 s.live.expo.fresh }
                          tracks := ⟨{ s.live.tracks.e0 with fresh := left 4 s.live.tracks.e0.fresh },
                                     { s.live.tracks.e1 with fresh := left 5 s.live.tracks.e1.fresh },
                                     { s.live.tracks.e2 with fresh := left 6 s.live.tracks.e2.fresh },
                                     { s.live.tracks.e3 with fresh := left 7 s.live.tracks.e3.fresh }⟩ } }))
        ∧ (7 < first.toNat → exec (.readLive [first, count]) s = .next (s.answered 0x89 [3, 0]).settle)
        ∧ (first.toNat ≤ 7 → count = 0 → exec (.readLive [first, count]) s = .next (s.answered 0x89 [3, 1]).settle))
    ∧ ∀ (most : Byte) (s : State), s.takesRequests →
        (most = 0 → exec (.fetchSpans [most]) s = .next (s.answered 0x8A [3, 0]).settle
            ∧ exec (.fetchEvents [most]) s = .next (s.answered 0x8B [3, 0]).settle)
          ∧ (most ≠ 0 →
              let flying := if s.rep.spans.inFlight then s.rep.spans.items.take 1 else []
              ∃ taken rest : List SpanRec, s.rep.spans.items = flying ++ taken ++ rest
                ∧ taken.length ≤ min most.toNat 32 ∧ (taken.map SpanRec.size).sum ≤ 1020
                ∧ (∀ r : SpanRec, rest.head? = some r →
                    taken.length = min most.toNat 32 ∨ 1020 < (taken.map SpanRec.size).sum + r.size)
                ∧ exec (.fetchSpans [most]) s =
                    .next (State.settle
                      { s.answered 0x8A
                          ([0] ++ toBytes 1 taken.length ++ toBytes 1 rest.length ++ [flagByte s.rep.spans.inFlight]
                            ++ (taken.map SpanRec.bytes).flatten) with
                        rep := { s.rep with spans := { s.rep.spans with items := flying ++ rest } } }))
          ∧ (most ≠ 0 → ∃ taken rest : List Event, s.rep.events.items = taken ++ rest
              ∧ taken.length ≤ min most.toNat 64 ∧ (taken.map Event.size).sum ≤ 1021
              ∧ (∀ e : Event, rest.head? = some e →
                  taken.length = min most.toNat 64 ∨ 1021 < (taken.map Event.size).sum + e.size)
              ∧ exec (.fetchEvents [most]) s =
                  .next (State.settle
                    { s.answered 0x8B
                        ([0] ++ toBytes 1 taken.length ++ toBytes 1 rest.length ++ (taken.map Event.bytes).flatten) with
                      rep := { s.rep with events := { s.rep.events with items := rest } } }))

/-- R157 to R159: ACK_ATTENTION clears the latched causes it names and answers the causes still active; when it cleared
one and an enabled cause is still active, a pulse of 25 µs begins, and one that runs is left alone. At the pulse's end
ATTN_N follows the causes. R186, R188: READ_FAULTS answers the 23 records; CLEAR_FAULTS answers the class totals and
clears the records, the marks kept. With no pulse running its end has no effect (log entry 3). -/
def Obligations.AcknowledgementAndFaultRequests : Prop :=
  ∀ s : State,
    (s.takesRequests → ∀ mask : Byte,
        let spans := decide (s.cfg.reporting.spanMark ≤ s.rep.spans.available)
        let events := decide (s.rep.events.items ≠ [])
        let loss := s.rep.lossCause && !mask.getLsbD 2
        let fault := s.rep.faultCause && !mask.getLsbD 3
        let run := s.rep.runCause && !mask.getLsbD 4
        let cleared := (s.rep.lossCause && mask.getLsbD 2) || (s.rep.faultCause && mask.getLsbD 3)
          || (s.rep.runCause && mask.getLsbD 4)
        let enabled := s.cfg.reporting.mask
        let wanted := (spans && enabled.spanAvailable) || (events && enabled.eventAvailable) || (loss && enabled.queueLoss)
          || (fault && enabled.fault) || (run && enabled.runState)
        (mask.toNat ≤ 31 → exec (.ackAttention [mask]) s =
            .next (State.settle
              { s.answered 0x8C [0, maskByte [spans, events, loss, fault, run]] with
                rep := { s.rep with
                         lossCause := loss, faultCause := fault, runCause := run
                         pulseDue := if s.rep.pulseDue = none ∧ cleared = true ∧ wanted = true then some (s.clock + 100)
                                     else s.rep.pulseDue } }))
          ∧ (31 < mask.toNat → exec (.ackAttention [mask]) s = .next (s.answered 0x8C [3, 0]).settle))
      ∧ (s.rep.pulseDue = none → exec .attnPulseEnd s = .next s.settle)
      ∧ (∀ due : Nat, s.rep.pulseDue = some due → exec .attnPulseEnd s =
          .next (State.settle { s with clock := max s.clock due, rep := { s.rep with pulseDue := none } }))
      ∧ (s.takesRequests → s.rep.faults.length = 23 →
          let bytes (c : FaultCode) : List Byte :=
            let r := s.rep.record c
            toBytes 1 c.number ++ toBytes 1 c.class.code ++ toBytes 2 r.count
              ++ [maskByte [r.first.isSome, r.last.isSome, r.value.isSome]] ++ toBytes 4 (r.first.getD 0)
              ++ toBytes 4 (r.last.getD 0) ++ toBytes 1 (r.value.elim 0 FaultValue.qualifier : Nat)
              ++ toBytes 4 (r.value.elim 0 FaultValue.number)
          let total (cls : FaultClass) : Nat :=
            ((FaultCode.all.filter fun c => c.class = cls).map fun c => (s.rep.record c).count).sum
          exec (.readFaults []) s = .next (s.answered 0x8D (0 :: (FaultCode.all.map bytes).flatten)).settle
            ∧ exec (.clearFaults []) s =
                .next (State.settle
                  { s.answered 0x8E
                      (0 :: (toBytes 4 (total .notice) ++ toBytes 4 (total .degrading) ++ toBytes 4 (total .halting))) with
                    rep := { s.rep with
                             faults := s.rep.faults.map fun r =>
                               { r with count := 0, first := none, last := none, value := none } } }))

/-! ### The Calibration Store (R173 to R177) -/

/-- R165, R175, R176: WRITE_CAL in STOPPED replaces the working copy when every field is in range and otherwise refuses
with the index of the first field out of range, counted from 0 (log entry 14); READ_CAL answers it with the status and the
modified indication; STORE_CAL in STOPPED begins a store, whose end makes the status VALID when the block reads back as
written and otherwise raises CAL_STORE_FAIL. With no store in progress its end has no effect (log entry 3). The layout of
READ_CAL is log entry 15; that the block becomes the bytes read back is log entry 28. -/
def Obligations.CalibrationIsWrittenReadAndStored : Prop :=
  ∀ s : State,
    (s.takesRequests → s.run.state = .stopped →
        (∀ f : CalFields, f.inRange → exec (.writeCal f.payload) s =
            .next (State.settle { s.answered 0x8F [0] with cal := { s.cal with work := f, modified := true } }))
          ∧ (∀ b : List Byte, b.length = 59 → (∀ f : CalFields, f.inRange → b ≠ f.payload) →
              ∃ i : Nat, i ≤ 18 ∧ firstFails 0 (calRanges b) i
                ∧ exec (.writeCal b) s = .next (s.answered 0x8F [3, BitVec.ofNat 8 i]).settle)
          ∧ exec (.storeCal []) s = .next (State.settle { s.answered 0x91 [0] with cal := { s.cal with storing := true } }))
      ∧ (s.takesRequests → exec (.readCal []) s =
          .next (s.answered 0x90
            (0 :: (s.cal.work.payload ++ [if s.cal.valid then 0 else 1, flagByte s.cal.modified]))).settle)
      ∧ (s.cal.storing = false → ∀ block : List Byte, exec (.calStoreDone block) s = .next s.settle)
      ∧ (s.cal.storing = true → ∀ block : List Byte,
          let written := s.cal.work.payload ++ toBytes 4 (crc32 s.cal.work.payload).toNat
          (block = written → exec (.calStoreDone block) s =
              .next (State.settle
                { s with
                  cal := { s.cal with
                           block := block, storing := false, lastResult := .verified, valid := true
                           modified := false } }))
            ∧ (block ≠ written → exec (.calStoreDone block) s =
                .next (State.settle
                  (State.raise .calStoreFail { qualifier := 0, number := firstDifference 0 calFields block written }
                    { s with
                      cal := { s.cal with
                               block := block, storing := false, lastResult := .failed, modified := true } }))))
end

