-- ==== Sys2Proof/Laws/State.lean ====
section
/-! SUPPORT. What each shared update of the state does to each of its fields, true by unfolding. -/

namespace Sys2Proof.Machine

/-! ### `State.advanceTo` -/

@[simp] theorem State.advanceTo_clock (due : Nat) (s : State) : (s.advanceTo due).clock = max s.clock due := rfl
@[simp] theorem State.advanceTo_free (due : Nat) (s : State) : (s.advanceTo due).free = s.free := rfl
@[simp] theorem State.advanceTo_pins (due : Nat) (s : State) : (s.advanceTo due).pins = s.pins := rfl
@[simp] theorem State.advanceTo_link (due : Nat) (s : State) : (s.advanceTo due).link = s.link := rfl
@[simp] theorem State.advanceTo_heads (due : Nat) (s : State) : (s.advanceTo due).heads = s.heads := rfl
@[simp] theorem State.advanceTo_table (due : Nat) (s : State) : (s.advanceTo due).table = s.table := rfl
@[simp] theorem State.advanceTo_expo (due : Nat) (s : State) : (s.advanceTo due).expo = s.expo := rfl
@[simp] theorem State.advanceTo_odo (due : Nat) (s : State) : (s.advanceTo due).odo = s.odo := rfl
@[simp] theorem State.advanceTo_mark (due : Nat) (s : State) : (s.advanceTo due).mark = s.mark := rfl
@[simp] theorem State.advanceTo_att (due : Nat) (s : State) : (s.advanceTo due).att = s.att := rfl
@[simp] theorem State.advanceTo_trk (due : Nat) (s : State) : (s.advanceTo due).trk = s.trk := rfl
@[simp] theorem State.advanceTo_span (due : Nat) (s : State) : (s.advanceTo due).span = s.span := rfl
@[simp] theorem State.advanceTo_run (due : Nat) (s : State) : (s.advanceTo due).run = s.run := rfl
@[simp] theorem State.advanceTo_rep (due : Nat) (s : State) : (s.advanceTo due).rep = s.rep := rfl
@[simp] theorem State.advanceTo_live (due : Nat) (s : State) : (s.advanceTo due).live = s.live := rfl
@[simp] theorem State.advanceTo_cal (due : Nat) (s : State) : (s.advanceTo due).cal = s.cal := rfl
@[simp] theorem State.advanceTo_cfg (due : Nat) (s : State) : (s.advanceTo due).cfg = s.cfg := rfl
@[simp] theorem State.advanceTo_pending (due : Nat) (s : State) : (s.advanceTo due).pending = s.pending := rfl

/-! ### `State.emitAt` -/

@[simp] theorem State.emitAt_clock (at_ : Int) (b : EventBody) (s : State) : (s.emitAt at_ b).clock = s.clock := rfl
@[simp] theorem State.emitAt_free (at_ : Int) (b : EventBody) (s : State) : (s.emitAt at_ b).free = s.free := rfl
@[simp] theorem State.emitAt_pins (at_ : Int) (b : EventBody) (s : State) : (s.emitAt at_ b).pins = s.pins := rfl
@[simp] theorem State.emitAt_link (at_ : Int) (b : EventBody) (s : State) : (s.emitAt at_ b).link = s.link := rfl
@[simp] theorem State.emitAt_heads (at_ : Int) (b : EventBody) (s : State) : (s.emitAt at_ b).heads = s.heads := rfl
@[simp] theorem State.emitAt_table (at_ : Int) (b : EventBody) (s : State) : (s.emitAt at_ b).table = s.table := rfl
@[simp] theorem State.emitAt_expo (at_ : Int) (b : EventBody) (s : State) : (s.emitAt at_ b).expo = s.expo := rfl
@[simp] theorem State.emitAt_odo (at_ : Int) (b : EventBody) (s : State) : (s.emitAt at_ b).odo = s.odo := rfl
@[simp] theorem State.emitAt_mark (at_ : Int) (b : EventBody) (s : State) : (s.emitAt at_ b).mark = s.mark := rfl
@[simp] theorem State.emitAt_att (at_ : Int) (b : EventBody) (s : State) : (s.emitAt at_ b).att = s.att := rfl
@[simp] theorem State.emitAt_trk (at_ : Int) (b : EventBody) (s : State) : (s.emitAt at_ b).trk = s.trk := rfl
@[simp] theorem State.emitAt_span (at_ : Int) (b : EventBody) (s : State) : (s.emitAt at_ b).span = s.span := rfl
@[simp] theorem State.emitAt_run (at_ : Int) (b : EventBody) (s : State) : (s.emitAt at_ b).run = s.run := rfl
@[simp] theorem State.emitAt_rep (at_ : Int) (b : EventBody) (s : State) :
    (s.emitAt at_ b).rep = s.rep.produce s.pos s.timeMs at_ b := rfl
@[simp] theorem State.emitAt_live (at_ : Int) (b : EventBody) (s : State) : (s.emitAt at_ b).live = s.live := rfl
@[simp] theorem State.emitAt_cal (at_ : Int) (b : EventBody) (s : State) : (s.emitAt at_ b).cal = s.cal := rfl
@[simp] theorem State.emitAt_cfg (at_ : Int) (b : EventBody) (s : State) : (s.emitAt at_ b).cfg = s.cfg := rfl
@[simp] theorem State.emitAt_pending (at_ : Int) (b : EventBody) (s : State) :
    (s.emitAt at_ b).pending = s.pending := rfl

/-! ### `State.emit` -/

@[simp] theorem State.emit_clock (b : EventBody) (s : State) : (s.emit b).clock = s.clock := rfl
@[simp] theorem State.emit_free (b : EventBody) (s : State) : (s.emit b).free = s.free := rfl
@[simp] theorem State.emit_pins (b : EventBody) (s : State) : (s.emit b).pins = s.pins := rfl
@[simp] theorem State.emit_link (b : EventBody) (s : State) : (s.emit b).link = s.link := rfl
@[simp] theorem State.emit_heads (b : EventBody) (s : State) : (s.emit b).heads = s.heads := rfl
@[simp] theorem State.emit_table (b : EventBody) (s : State) : (s.emit b).table = s.table := rfl
@[simp] theorem State.emit_expo (b : EventBody) (s : State) : (s.emit b).expo = s.expo := rfl
@[simp] theorem State.emit_odo (b : EventBody) (s : State) : (s.emit b).odo = s.odo := rfl
@[simp] theorem State.emit_mark (b : EventBody) (s : State) : (s.emit b).mark = s.mark := rfl
@[simp] theorem State.emit_att (b : EventBody) (s : State) : (s.emit b).att = s.att := rfl
@[simp] theorem State.emit_trk (b : EventBody) (s : State) : (s.emit b).trk = s.trk := rfl
@[simp] theorem State.emit_span (b : EventBody) (s : State) : (s.emit b).span = s.span := rfl
@[simp] theorem State.emit_run (b : EventBody) (s : State) : (s.emit b).run = s.run := rfl
@[simp] theorem State.emit_rep (b : EventBody) (s : State) :
    (s.emit b).rep = s.rep.produce s.pos s.timeMs s.pos b := rfl
@[simp] theorem State.emit_live (b : EventBody) (s : State) : (s.emit b).live = s.live := rfl
@[simp] theorem State.emit_cal (b : EventBody) (s : State) : (s.emit b).cal = s.cal := rfl
@[simp] theorem State.emit_cfg (b : EventBody) (s : State) : (s.emit b).cfg = s.cfg := rfl
@[simp] theorem State.emit_pending (b : EventBody) (s : State) : (s.emit b).pending = s.pending := rfl

/-! ### `State.storeSpan` -/

@[simp] theorem State.storeSpan_clock (r : SpanRec) (s : State) : (s.storeSpan r).clock = s.clock := rfl
@[simp] theorem State.storeSpan_free (r : SpanRec) (s : State) : (s.storeSpan r).free = s.free := rfl
@[simp] theorem State.storeSpan_pins (r : SpanRec) (s : State) : (s.storeSpan r).pins = s.pins := rfl
@[simp] theorem State.storeSpan_link (r : SpanRec) (s : State) : (s.storeSpan r).link = s.link := rfl
@[simp] theorem State.storeSpan_heads (r : SpanRec) (s : State) : (s.storeSpan r).heads = s.heads := rfl
@[simp] theorem State.storeSpan_table (r : SpanRec) (s : State) : (s.storeSpan r).table = s.table := rfl
@[simp] theorem State.storeSpan_expo (r : SpanRec) (s : State) : (s.storeSpan r).expo = s.expo := rfl
@[simp] theorem State.storeSpan_odo (r : SpanRec) (s : State) : (s.storeSpan r).odo = s.odo := rfl
@[simp] theorem State.storeSpan_mark (r : SpanRec) (s : State) : (s.storeSpan r).mark = s.mark := rfl
@[simp] theorem State.storeSpan_att (r : SpanRec) (s : State) : (s.storeSpan r).att = s.att := rfl
@[simp] theorem State.storeSpan_trk (r : SpanRec) (s : State) : (s.storeSpan r).trk = s.trk := rfl
@[simp] theorem State.storeSpan_span (r : SpanRec) (s : State) : (s.storeSpan r).span = s.span := rfl
@[simp] theorem State.storeSpan_run (r : SpanRec) (s : State) : (s.storeSpan r).run = s.run := rfl
@[simp] theorem State.storeSpan_rep (r : SpanRec) (s : State) : (s.storeSpan r).rep = s.rep.storeSpan s.pos r := rfl
@[simp] theorem State.storeSpan_live (r : SpanRec) (s : State) : (s.storeSpan r).live = s.live := rfl
@[simp] theorem State.storeSpan_cal (r : SpanRec) (s : State) : (s.storeSpan r).cal = s.cal := rfl
@[simp] theorem State.storeSpan_cfg (r : SpanRec) (s : State) : (s.storeSpan r).cfg = s.cfg := rfl
@[simp] theorem State.storeSpan_pending (r : SpanRec) (s : State) : (s.storeSpan r).pending = s.pending := rfl

/-! ### `State.begin` -/

@[simp] theorem State.begin_clock (f : Frame) (s : State) : (s.begin f).clock = s.clock := rfl
@[simp] theorem State.begin_free (f : Frame) (s : State) : (s.begin f).free = s.free := rfl
@[simp] theorem State.begin_pins (f : Frame) (s : State) : (s.begin f).pins = s.pins := rfl
@[simp] theorem State.begin_link (f : Frame) (s : State) : (s.begin f).link = { s.link with tx := some f } := rfl
@[simp] theorem State.begin_heads (f : Frame) (s : State) : (s.begin f).heads = s.heads := rfl
@[simp] theorem State.begin_table (f : Frame) (s : State) : (s.begin f).table = s.table := rfl
@[simp] theorem State.begin_expo (f : Frame) (s : State) : (s.begin f).expo = s.expo := rfl
@[simp] theorem State.begin_odo (f : Frame) (s : State) : (s.begin f).odo = s.odo := rfl
@[simp] theorem State.begin_mark (f : Frame) (s : State) : (s.begin f).mark = s.mark := rfl
@[simp] theorem State.begin_att (f : Frame) (s : State) : (s.begin f).att = s.att := rfl
@[simp] theorem State.begin_trk (f : Frame) (s : State) : (s.begin f).trk = s.trk := rfl
@[simp] theorem State.begin_span (f : Frame) (s : State) : (s.begin f).span = s.span := rfl
@[simp] theorem State.begin_run (f : Frame) (s : State) : (s.begin f).run = s.run := rfl
@[simp] theorem State.begin_rep (f : Frame) (s : State) : (s.begin f).rep = s.rep := rfl
@[simp] theorem State.begin_live (f : Frame) (s : State) : (s.begin f).live = s.live := rfl
@[simp] theorem State.begin_cal (f : Frame) (s : State) : (s.begin f).cal = s.cal := rfl
@[simp] theorem State.begin_cfg (f : Frame) (s : State) : (s.begin f).cfg = s.cfg := rfl
@[simp] theorem State.begin_pending (f : Frame) (s : State) : (s.begin f).pending = s.pending := rfl

/-! ### `State.followAttn` -/

@[simp] theorem State.followAttn_clock (s : State) : (s.followAttn).clock = s.clock := rfl
@[simp] theorem State.followAttn_free (s : State) : (s.followAttn).free = s.free := rfl
@[simp] theorem State.followAttn_pins (s : State) : (s.followAttn).pins = s.pins := rfl
@[simp] theorem State.followAttn_link (s : State) : (s.followAttn).link = s.link := rfl
@[simp] theorem State.followAttn_heads (s : State) : (s.followAttn).heads = s.heads := rfl
@[simp] theorem State.followAttn_table (s : State) : (s.followAttn).table = s.table := rfl
@[simp] theorem State.followAttn_expo (s : State) : (s.followAttn).expo = s.expo := rfl
@[simp] theorem State.followAttn_odo (s : State) : (s.followAttn).odo = s.odo := rfl
@[simp] theorem State.followAttn_mark (s : State) : (s.followAttn).mark = s.mark := rfl
@[simp] theorem State.followAttn_att (s : State) : (s.followAttn).att = s.att := rfl
@[simp] theorem State.followAttn_trk (s : State) : (s.followAttn).trk = s.trk := rfl
@[simp] theorem State.followAttn_span (s : State) : (s.followAttn).span = s.span := rfl
@[simp] theorem State.followAttn_run (s : State) : (s.followAttn).run = s.run := rfl
@[simp] theorem State.followAttn_rep (s : State) : (s.followAttn).rep = s.rep.followAttn s.cfg.reporting := rfl
@[simp] theorem State.followAttn_live (s : State) : (s.followAttn).live = s.live := rfl
@[simp] theorem State.followAttn_cal (s : State) : (s.followAttn).cal = s.cal := rfl
@[simp] theorem State.followAttn_cfg (s : State) : (s.followAttn).cfg = s.cfg := rfl
@[simp] theorem State.followAttn_pending (s : State) : (s.followAttn).pending = s.pending := rfl

/-! ### `State.reply` -/

@[simp] theorem State.reply_clock (f : Frame) (s : State) : (s.reply f).clock = s.clock := rfl
@[simp] theorem State.reply_free (f : Frame) (s : State) : (s.reply f).free = s.free := rfl
@[simp] theorem State.reply_pins (f : Frame) (s : State) : (s.reply f).pins = s.pins := rfl
@[simp] theorem State.reply_link (f : Frame) (s : State) : (s.reply f).link = { s.link with slot := some f } := rfl
@[simp] theorem State.reply_heads (f : Frame) (s : State) : (s.reply f).heads = s.heads := rfl
@[simp] theorem State.reply_table (f : Frame) (s : State) : (s.reply f).table = s.table := rfl
@[simp] theorem State.reply_expo (f : Frame) (s : State) : (s.reply f).expo = s.expo := rfl
@[simp] theorem State.reply_odo (f : Frame) (s : State) : (s.reply f).odo = s.odo := rfl
@[simp] theorem State.reply_mark (f : Frame) (s : State) : (s.reply f).mark = s.mark := rfl
@[simp] theorem State.reply_att (f : Frame) (s : State) : (s.reply f).att = s.att := rfl
@[simp] theorem State.reply_trk (f : Frame) (s : State) : (s.reply f).trk = s.trk := rfl
@[simp] theorem State.reply_span (f : Frame) (s : State) : (s.reply f).span = s.span := rfl
@[simp] theorem State.reply_run (f : Frame) (s : State) : (s.reply f).run = s.run := rfl
@[simp] theorem State.reply_rep (f : Frame) (s : State) : (s.reply f).rep = s.rep := rfl
@[simp] theorem State.reply_live (f : Frame) (s : State) : (s.reply f).live = s.live := rfl
@[simp] theorem State.reply_cal (f : Frame) (s : State) : (s.reply f).cal = s.cal := rfl
@[simp] theorem State.reply_cfg (f : Frame) (s : State) : (s.reply f).cfg = s.cfg := rfl
@[simp] theorem State.reply_pending (f : Frame) (s : State) : (s.reply f).pending = s.pending := rfl

/-! ### `State.accept` -/

@[simp] theorem State.accept_clock (k : Byte) (bs : List Byte) (s : State) : (s.accept k bs).clock = s.clock := rfl
@[simp] theorem State.accept_free (k : Byte) (bs : List Byte) (s : State) : (s.accept k bs).free = s.free := rfl
@[simp] theorem State.accept_pins (k : Byte) (bs : List Byte) (s : State) : (s.accept k bs).pins = s.pins := rfl
@[simp] theorem State.accept_link (k : Byte) (bs : List Byte) (s : State) :
    (s.accept k bs).link = { s.link with slot := some (replyFrame k .accepted bs) } := rfl
@[simp] theorem State.accept_heads (k : Byte) (bs : List Byte) (s : State) : (s.accept k bs).heads = s.heads := rfl
@[simp] theorem State.accept_table (k : Byte) (bs : List Byte) (s : State) : (s.accept k bs).table = s.table := rfl
@[simp] theorem State.accept_expo (k : Byte) (bs : List Byte) (s : State) : (s.accept k bs).expo = s.expo := rfl
@[simp] theorem State.accept_odo (k : Byte) (bs : List Byte) (s : State) : (s.accept k bs).odo = s.odo := rfl
@[simp] theorem State.accept_mark (k : Byte) (bs : List Byte) (s : State) : (s.accept k bs).mark = s.mark := rfl
@[simp] theorem State.accept_att (k : Byte) (bs : List Byte) (s : State) : (s.accept k bs).att = s.att := rfl
@[simp] theorem State.accept_trk (k : Byte) (bs : List Byte) (s : State) : (s.accept k bs).trk = s.trk := rfl
@[simp] theorem State.accept_span (k : Byte) (bs : List Byte) (s : State) : (s.accept k bs).span = s.span := rfl
@[simp] theorem State.accept_run (k : Byte) (bs : List Byte) (s : State) : (s.accept k bs).run = s.run := rfl
@[simp] theorem State.accept_rep (k : Byte) (bs : List Byte) (s : State) : (s.accept k bs).rep = s.rep := rfl
@[simp] theorem State.accept_live (k : Byte) (bs : List Byte) (s : State) : (s.accept k bs).live = s.live := rfl
@[simp] theorem State.accept_cal (k : Byte) (bs : List Byte) (s : State) : (s.accept k bs).cal = s.cal := rfl
@[simp] theorem State.accept_cfg (k : Byte) (bs : List Byte) (s : State) : (s.accept k bs).cfg = s.cfg := rfl
@[simp] theorem State.accept_pending (k : Byte) (bs : List Byte) (s : State) :
    (s.accept k bs).pending = s.pending := rfl

/-! ### `State.refuse` -/

@[simp] theorem State.refuse_clock (k : Byte) (st : Status) (s : State) : (s.refuse k st).clock = s.clock := rfl
@[simp] theorem State.refuse_free (k : Byte) (st : Status) (s : State) : (s.refuse k st).free = s.free := rfl
@[simp] theorem State.refuse_pins (k : Byte) (st : Status) (s : State) : (s.refuse k st).pins = s.pins := rfl
@[simp] theorem State.refuse_link (k : Byte) (st : Status) (s : State) :
    (s.refuse k st).link = { s.link with slot := some (replyFrame k st []) } := rfl
@[simp] theorem State.refuse_heads (k : Byte) (st : Status) (s : State) : (s.refuse k st).heads = s.heads := rfl
@[simp] theorem State.refuse_table (k : Byte) (st : Status) (s : State) : (s.refuse k st).table = s.table := rfl
@[simp] theorem State.refuse_expo (k : Byte) (st : Status) (s : State) : (s.refuse k st).expo = s.expo := rfl
@[simp] theorem State.refuse_odo (k : Byte) (st : Status) (s : State) : (s.refuse k st).odo = s.odo := rfl
@[simp] theorem State.refuse_mark (k : Byte) (st : Status) (s : State) : (s.refuse k st).mark = s.mark := rfl
@[simp] theorem State.refuse_att (k : Byte) (st : Status) (s : State) : (s.refuse k st).att = s.att := rfl
@[simp] theorem State.refuse_trk (k : Byte) (st : Status) (s : State) : (s.refuse k st).trk = s.trk := rfl
@[simp] theorem State.refuse_span (k : Byte) (st : Status) (s : State) : (s.refuse k st).span = s.span := rfl
@[simp] theorem State.refuse_run (k : Byte) (st : Status) (s : State) : (s.refuse k st).run = s.run := rfl
@[simp] theorem State.refuse_rep (k : Byte) (st : Status) (s : State) : (s.refuse k st).rep = s.rep := rfl
@[simp] theorem State.refuse_live (k : Byte) (st : Status) (s : State) : (s.refuse k st).live = s.live := rfl
@[simp] theorem State.refuse_cal (k : Byte) (st : Status) (s : State) : (s.refuse k st).cal = s.cal := rfl
@[simp] theorem State.refuse_cfg (k : Byte) (st : Status) (s : State) : (s.refuse k st).cfg = s.cfg := rfl
@[simp] theorem State.refuse_pending (k : Byte) (st : Status) (s : State) : (s.refuse k st).pending = s.pending := rfl

/-! ### `State.refuseValue` -/

@[simp] theorem State.refuseValue_clock (k : Byte) (i : Nat) (s : State) : (s.refuseValue k i).clock = s.clock := rfl
@[simp] theorem State.refuseValue_free (k : Byte) (i : Nat) (s : State) : (s.refuseValue k i).free = s.free := rfl
@[simp] theorem State.refuseValue_pins (k : Byte) (i : Nat) (s : State) : (s.refuseValue k i).pins = s.pins := rfl
@[simp] theorem State.refuseValue_link (k : Byte) (i : Nat) (s : State) :
    (s.refuseValue k i).link = { s.link with slot := some (badValue k i) } := rfl
@[simp] theorem State.refuseValue_heads (k : Byte) (i : Nat) (s : State) : (s.refuseValue k i).heads = s.heads := rfl
@[simp] theorem State.refuseValue_table (k : Byte) (i : Nat) (s : State) : (s.refuseValue k i).table = s.table := rfl
@[simp] theorem State.refuseValue_expo (k : Byte) (i : Nat) (s : State) : (s.refuseValue k i).expo = s.expo := rfl
@[simp] theorem State.refuseValue_odo (k : Byte) (i : Nat) (s : State) : (s.refuseValue k i).odo = s.odo := rfl
@[simp] theorem State.refuseValue_mark (k : Byte) (i : Nat) (s : State) : (s.refuseValue k i).mark = s.mark := rfl
@[simp] theorem State.refuseValue_att (k : Byte) (i : Nat) (s : State) : (s.refuseValue k i).att = s.att := rfl
@[simp] theorem State.refuseValue_trk (k : Byte) (i : Nat) (s : State) : (s.refuseValue k i).trk = s.trk := rfl
@[simp] theorem State.refuseValue_span (k : Byte) (i : Nat) (s : State) : (s.refuseValue k i).span = s.span := rfl
@[simp] theorem State.refuseValue_run (k : Byte) (i : Nat) (s : State) : (s.refuseValue k i).run = s.run := rfl
@[simp] theorem State.refuseValue_rep (k : Byte) (i : Nat) (s : State) : (s.refuseValue k i).rep = s.rep := rfl
@[simp] theorem State.refuseValue_live (k : Byte) (i : Nat) (s : State) : (s.refuseValue k i).live = s.live := rfl
@[simp] theorem State.refuseValue_cal (k : Byte) (i : Nat) (s : State) : (s.refuseValue k i).cal = s.cal := rfl
@[simp] theorem State.refuseValue_cfg (k : Byte) (i : Nat) (s : State) : (s.refuseValue k i).cfg = s.cfg := rfl
@[simp] theorem State.refuseValue_pending (k : Byte) (i : Nat) (s : State) :
    (s.refuseValue k i).pending = s.pending := rfl

/-! ### `State.hostHunt` -/

@[simp] theorem State.hostHunt_clock (s : State) : (s.hostHunt).clock = s.clock := rfl
@[simp] theorem State.hostHunt_free (s : State) : (s.hostHunt).free = s.free := rfl
@[simp] theorem State.hostHunt_pins (s : State) : (s.hostHunt).pins = s.pins := rfl
@[simp] theorem State.hostHunt_link (s : State) : (s.hostHunt).link = { s.link with receiver := .hunting } := rfl
@[simp] theorem State.hostHunt_heads (s : State) : (s.hostHunt).heads = s.heads := rfl
@[simp] theorem State.hostHunt_table (s : State) : (s.hostHunt).table = s.table := rfl
@[simp] theorem State.hostHunt_expo (s : State) : (s.hostHunt).expo = s.expo := rfl
@[simp] theorem State.hostHunt_odo (s : State) : (s.hostHunt).odo = s.odo := rfl
@[simp] theorem State.hostHunt_mark (s : State) : (s.hostHunt).mark = s.mark := rfl
@[simp] theorem State.hostHunt_att (s : State) : (s.hostHunt).att = s.att := rfl
@[simp] theorem State.hostHunt_trk (s : State) : (s.hostHunt).trk = s.trk := rfl
@[simp] theorem State.hostHunt_span (s : State) : (s.hostHunt).span = s.span := rfl
@[simp] theorem State.hostHunt_run (s : State) : (s.hostHunt).run = s.run := rfl
@[simp] theorem State.hostHunt_rep (s : State) : (s.hostHunt).rep = s.rep := rfl
@[simp] theorem State.hostHunt_live (s : State) : (s.hostHunt).live = s.live := rfl
@[simp] theorem State.hostHunt_cal (s : State) : (s.hostHunt).cal = s.cal := rfl
@[simp] theorem State.hostHunt_cfg (s : State) : (s.hostHunt).cfg = s.cfg := rfl
@[simp] theorem State.hostHunt_pending (s : State) : (s.hostHunt).pending = s.pending := rfl

/-! ### `State.touchLiveExpo` -/

@[simp] theorem State.touchLiveExpo_clock (s : State) : (s.touchLiveExpo).clock = s.clock := rfl
@[simp] theorem State.touchLiveExpo_free (s : State) : (s.touchLiveExpo).free = s.free := rfl
@[simp] theorem State.touchLiveExpo_pins (s : State) : (s.touchLiveExpo).pins = s.pins := rfl
@[simp] theorem State.touchLiveExpo_link (s : State) : (s.touchLiveExpo).link = s.link := rfl
@[simp] theorem State.touchLiveExpo_heads (s : State) : (s.touchLiveExpo).heads = s.heads := rfl
@[simp] theorem State.touchLiveExpo_table (s : State) : (s.touchLiveExpo).table = s.table := rfl
@[simp] theorem State.touchLiveExpo_expo (s : State) : (s.touchLiveExpo).expo = s.expo := rfl
@[simp] theorem State.touchLiveExpo_odo (s : State) : (s.touchLiveExpo).odo = s.odo := rfl
@[simp] theorem State.touchLiveExpo_mark (s : State) : (s.touchLiveExpo).mark = s.mark := rfl
@[simp] theorem State.touchLiveExpo_att (s : State) : (s.touchLiveExpo).att = s.att := rfl
@[simp] theorem State.touchLiveExpo_trk (s : State) : (s.touchLiveExpo).trk = s.trk := rfl
@[simp] theorem State.touchLiveExpo_span (s : State) : (s.touchLiveExpo).span = s.span := rfl
@[simp] theorem State.touchLiveExpo_run (s : State) : (s.touchLiveExpo).run = s.run := rfl
@[simp] theorem State.touchLiveExpo_rep (s : State) : (s.touchLiveExpo).rep = s.rep := rfl
@[simp] theorem State.touchLiveExpo_cal (s : State) : (s.touchLiveExpo).cal = s.cal := rfl
@[simp] theorem State.touchLiveExpo_cfg (s : State) : (s.touchLiveExpo).cfg = s.cfg := rfl
@[simp] theorem State.touchLiveExpo_pending (s : State) : (s.touchLiveExpo).pending = s.pending := rfl

/-! ### `State.seeRsv` -/

@[simp] theorem State.seeRsv_clock (b : Bool) (s : State) : (s.seeRsv b).clock = s.clock := rfl
@[simp] theorem State.seeRsv_free (b : Bool) (s : State) : (s.seeRsv b).free = s.free := rfl
@[simp] theorem State.seeRsv_pins (b : Bool) (s : State) : (s.seeRsv b).pins = { s.pins with rsvRdy := b } := rfl
@[simp] theorem State.seeRsv_link (b : Bool) (s : State) : (s.seeRsv b).link = s.link := rfl
@[simp] theorem State.seeRsv_heads (b : Bool) (s : State) : (s.seeRsv b).heads = s.heads := rfl
@[simp] theorem State.seeRsv_table (b : Bool) (s : State) : (s.seeRsv b).table = s.table := rfl
@[simp] theorem State.seeRsv_expo (b : Bool) (s : State) : (s.seeRsv b).expo = s.expo := rfl
@[simp] theorem State.seeRsv_odo (b : Bool) (s : State) : (s.seeRsv b).odo = s.odo := rfl
@[simp] theorem State.seeRsv_mark (b : Bool) (s : State) : (s.seeRsv b).mark = s.mark := rfl
@[simp] theorem State.seeRsv_att (b : Bool) (s : State) : (s.seeRsv b).att = s.att := rfl
@[simp] theorem State.seeRsv_trk (b : Bool) (s : State) : (s.seeRsv b).trk = s.trk := rfl
@[simp] theorem State.seeRsv_span (b : Bool) (s : State) : (s.seeRsv b).span = s.span := rfl
@[simp] theorem State.seeRsv_run (b : Bool) (s : State) : (s.seeRsv b).run = s.run := rfl
@[simp] theorem State.seeRsv_rep (b : Bool) (s : State) : (s.seeRsv b).rep = s.rep := rfl
@[simp] theorem State.seeRsv_live (b : Bool) (s : State) : (s.seeRsv b).live = s.live := rfl
@[simp] theorem State.seeRsv_cal (b : Bool) (s : State) : (s.seeRsv b).cal = s.cal := rfl
@[simp] theorem State.seeRsv_cfg (b : Bool) (s : State) : (s.seeRsv b).cfg = s.cfg := rfl
@[simp] theorem State.seeRsv_pending (b : Bool) (s : State) : (s.seeRsv b).pending = s.pending := rfl

end Sys2Proof.Machine
end

