-- ==== Sys2Proof/Laws/Frames.lean ====
section
/-! SUPPORT. For each operation on the state, one lemma that names every field it leaves alone. -/

namespace Sys2Proof.Machine

/-! ### Faults, events and the span queue (R148, R151, R180 to R182) -/

/-- A fault raised changes the fault records, the queues and the causes alone. -/
@[simp] theorem State.raise_frame (c : FaultCode) (v : FaultValue) (s : State) :
    (s.raise c v).clock = s.clock ∧ (s.raise c v).free = s.free ∧ (s.raise c v).pins = s.pins
      ∧ (s.raise c v).link = s.link ∧ (s.raise c v).heads = s.heads ∧ (s.raise c v).table = s.table
      ∧ (s.raise c v).expo = s.expo ∧ (s.raise c v).odo = s.odo ∧ (s.raise c v).mark = s.mark
      ∧ (s.raise c v).att = s.att ∧ (s.raise c v).trk = s.trk ∧ (s.raise c v).span = s.span
      ∧ (s.raise c v).run = s.run ∧ (s.raise c v).live = s.live ∧ (s.raise c v).cal = s.cal
      ∧ (s.raise c v).cfg = s.cfg ∧ (s.raise c v).pending = s.pending := by
  unfold State.raise; (try dsimp only); (repeat' split) <;> simp

/-- A fault raised many times. -/
@[simp] theorem State.raiseTimes_frame (c : FaultCode) (v : FaultValue) (n : Nat) (s : State) :
    (State.raiseTimes c v n s).clock = s.clock ∧ (State.raiseTimes c v n s).free = s.free
      ∧ (State.raiseTimes c v n s).pins = s.pins ∧ (State.raiseTimes c v n s).link = s.link
      ∧ (State.raiseTimes c v n s).heads = s.heads ∧ (State.raiseTimes c v n s).table = s.table
      ∧ (State.raiseTimes c v n s).expo = s.expo ∧ (State.raiseTimes c v n s).odo = s.odo
      ∧ (State.raiseTimes c v n s).mark = s.mark ∧ (State.raiseTimes c v n s).att = s.att
      ∧ (State.raiseTimes c v n s).trk = s.trk ∧ (State.raiseTimes c v n s).span = s.span
      ∧ (State.raiseTimes c v n s).run = s.run ∧ (State.raiseTimes c v n s).live = s.live
      ∧ (State.raiseTimes c v n s).cal = s.cal ∧ (State.raiseTimes c v n s).cfg = s.cfg
      ∧ (State.raiseTimes c v n s).pending = s.pending := by
  induction n generalizing s with
  | zero => simp [State.raiseTimes]
  | succ n ih => simp [State.raiseTimes, ih]

/-- Events change the event queue and what a loss changes. -/
@[simp] theorem State.emitEach_frame (es : List PlacedEvent) (s : State) :
    (State.emitEach es s).clock = s.clock ∧ (State.emitEach es s).free = s.free
      ∧ (State.emitEach es s).pins = s.pins ∧ (State.emitEach es s).link = s.link
      ∧ (State.emitEach es s).heads = s.heads ∧ (State.emitEach es s).table = s.table
      ∧ (State.emitEach es s).expo = s.expo ∧ (State.emitEach es s).odo = s.odo
      ∧ (State.emitEach es s).mark = s.mark ∧ (State.emitEach es s).att = s.att
      ∧ (State.emitEach es s).trk = s.trk ∧ (State.emitEach es s).span = s.span
      ∧ (State.emitEach es s).run = s.run ∧ (State.emitEach es s).live = s.live
      ∧ (State.emitEach es s).cal = s.cal ∧ (State.emitEach es s).cfg = s.cfg
      ∧ (State.emitEach es s).pending = s.pending := by
  induction es generalizing s with
  | nil => simp [State.emitEach]
  | cons e es ih => simp [State.emitEach, ih]

/-- Events at one position change as much. -/
@[simp] theorem State.emitAllAt_frame (p : Int) (bs : List EventBody) (s : State) :
    (State.emitAllAt p bs s).clock = s.clock ∧ (State.emitAllAt p bs s).free = s.free
      ∧ (State.emitAllAt p bs s).pins = s.pins ∧ (State.emitAllAt p bs s).link = s.link
      ∧ (State.emitAllAt p bs s).heads = s.heads ∧ (State.emitAllAt p bs s).table = s.table
      ∧ (State.emitAllAt p bs s).expo = s.expo ∧ (State.emitAllAt p bs s).odo = s.odo
      ∧ (State.emitAllAt p bs s).mark = s.mark ∧ (State.emitAllAt p bs s).att = s.att
      ∧ (State.emitAllAt p bs s).trk = s.trk ∧ (State.emitAllAt p bs s).span = s.span
      ∧ (State.emitAllAt p bs s).run = s.run ∧ (State.emitAllAt p bs s).live = s.live
      ∧ (State.emitAllAt p bs s).cal = s.cal ∧ (State.emitAllAt p bs s).cfg = s.cfg
      ∧ (State.emitAllAt p bs s).pending = s.pending := by
  simp [State.emitAllAt]

/-! ### The transmit arbiter and requests (R163 to R166) -/

/-- A report begins, and its queue notes it. -/
@[simp] theorem State.offerReports_frame (s : State) :
    (s.offerReports).clock = s.clock ∧ (s.offerReports).free = s.free ∧ (s.offerReports).pins = s.pins
      ∧ (s.offerReports).heads = s.heads ∧ (s.offerReports).table = s.table ∧ (s.offerReports).expo = s.expo
      ∧ (s.offerReports).odo = s.odo ∧ (s.offerReports).mark = s.mark ∧ (s.offerReports).att = s.att
      ∧ (s.offerReports).trk = s.trk ∧ (s.offerReports).span = s.span ∧ (s.offerReports).run = s.run
      ∧ (s.offerReports).live = s.live ∧ (s.offerReports).cal = s.cal ∧ (s.offerReports).cfg = s.cfg
      ∧ (s.offerReports).pending = s.pending := by
  unfold State.offerReports; (try dsimp only); (repeat' split) <;> simp

/-- A frame begins, or nothing happens. -/
@[simp] theorem State.arbitrate_frame (s : State) :
    (s.arbitrate).clock = s.clock ∧ (s.arbitrate).free = s.free ∧ (s.arbitrate).pins = s.pins
      ∧ (s.arbitrate).heads = s.heads ∧ (s.arbitrate).table = s.table ∧ (s.arbitrate).expo = s.expo
      ∧ (s.arbitrate).odo = s.odo ∧ (s.arbitrate).mark = s.mark ∧ (s.arbitrate).att = s.att
      ∧ (s.arbitrate).trk = s.trk ∧ (s.arbitrate).span = s.span ∧ (s.arbitrate).run = s.run
      ∧ (s.arbitrate).live = s.live ∧ (s.arbitrate).cal = s.cal ∧ (s.arbitrate).cfg = s.cfg
      ∧ (s.arbitrate).pending = s.pending := by
  unfold State.arbitrate; (try dsimp only); (repeat' split) <;> simp

/-- The end of a command changes the link, the queues and ATTN_N alone. -/
@[simp] theorem State.settle_frame (s : State) :
    (s.settle).clock = s.clock ∧ (s.settle).free = s.free ∧ (s.settle).pins = s.pins ∧ (s.settle).heads = s.heads
      ∧ (s.settle).table = s.table ∧ (s.settle).expo = s.expo ∧ (s.settle).odo = s.odo ∧ (s.settle).mark = s.mark
      ∧ (s.settle).att = s.att ∧ (s.settle).trk = s.trk ∧ (s.settle).span = s.span ∧ (s.settle).run = s.run
      ∧ (s.settle).live = s.live ∧ (s.settle).cal = s.cal ∧ (s.settle).cfg = s.cfg ∧ (s.settle).pending = s.pending := by
  unfold State.settle; simp

/-- A discarded request raises LINK_OVERRUN. -/
@[simp] theorem State.overrun_frame (k : Byte) (s : State) :
    (s.overrun k).clock = s.clock ∧ (s.overrun k).free = s.free ∧ (s.overrun k).pins = s.pins
      ∧ (s.overrun k).link = s.link ∧ (s.overrun k).heads = s.heads ∧ (s.overrun k).table = s.table
      ∧ (s.overrun k).expo = s.expo ∧ (s.overrun k).odo = s.odo ∧ (s.overrun k).mark = s.mark
      ∧ (s.overrun k).att = s.att ∧ (s.overrun k).trk = s.trk ∧ (s.overrun k).span = s.span
      ∧ (s.overrun k).run = s.run ∧ (s.overrun k).live = s.live ∧ (s.overrun k).cal = s.cal
      ∧ (s.overrun k).cfg = s.cfg ∧ (s.overrun k).pending = s.pending := by
  unfold State.overrun; simp

/-! ### The Span Builder (R116 to R135) -/

/-- Monitors of ended tracks close. -/
@[simp] theorem State.closeEndedMonitors_frame (o : Outcome) (s : State) :
    (s.closeEndedMonitors o).clock = s.clock ∧ (s.closeEndedMonitors o).free = s.free
      ∧ (s.closeEndedMonitors o).pins = s.pins ∧ (s.closeEndedMonitors o).link = s.link
      ∧ (s.closeEndedMonitors o).heads = s.heads ∧ (s.closeEndedMonitors o).table = s.table
      ∧ (s.closeEndedMonitors o).expo = s.expo ∧ (s.closeEndedMonitors o).odo = s.odo
      ∧ (s.closeEndedMonitors o).mark = s.mark ∧ (s.closeEndedMonitors o).att = s.att
      ∧ (s.closeEndedMonitors o).trk = s.trk ∧ (s.closeEndedMonitors o).run = s.run
      ∧ (s.closeEndedMonitors o).live = s.live ∧ (s.closeEndedMonitors o).cal = s.cal
      ∧ (s.closeEndedMonitors o).cfg = s.cfg ∧ (s.closeEndedMonitors o).pending = s.pending := by
  unfold State.closeEndedMonitors; simp

/-- The monitors of one slot. -/
@[simp] theorem State.testSlotMonitors_frame (o : Outcome) (s : State) (k : Slot) :
    (s.testSlotMonitors o k).clock = s.clock ∧ (s.testSlotMonitors o k).free = s.free
      ∧ (s.testSlotMonitors o k).pins = s.pins ∧ (s.testSlotMonitors o k).link = s.link
      ∧ (s.testSlotMonitors o k).heads = s.heads ∧ (s.testSlotMonitors o k).table = s.table
      ∧ (s.testSlotMonitors o k).expo = s.expo ∧ (s.testSlotMonitors o k).odo = s.odo
      ∧ (s.testSlotMonitors o k).mark = s.mark ∧ (s.testSlotMonitors o k).att = s.att
      ∧ (s.testSlotMonitors o k).trk = s.trk ∧ (s.testSlotMonitors o k).run = s.run
      ∧ (s.testSlotMonitors o k).live = s.live ∧ (s.testSlotMonitors o k).cal = s.cal
      ∧ (s.testSlotMonitors o k).cfg = s.cfg ∧ (s.testSlotMonitors o k).pending = s.pending := by
  unfold State.testSlotMonitors; (try dsimp only); (repeat' split) <;> simp

/-- The monitors at a scan. -/
@[simp] theorem State.testMonitors_frame (o : Outcome) (s : State) :
    (s.testMonitors o).clock = s.clock ∧ (s.testMonitors o).free = s.free ∧ (s.testMonitors o).pins = s.pins
      ∧ (s.testMonitors o).link = s.link ∧ (s.testMonitors o).heads = s.heads ∧ (s.testMonitors o).table = s.table
      ∧ (s.testMonitors o).expo = s.expo ∧ (s.testMonitors o).odo = s.odo ∧ (s.testMonitors o).mark = s.mark
      ∧ (s.testMonitors o).att = s.att ∧ (s.testMonitors o).trk = s.trk ∧ (s.testMonitors o).run = s.run
      ∧ (s.testMonitors o).live = s.live ∧ (s.testMonitors o).cal = s.cal ∧ (s.testMonitors o).cfg = s.cfg
      ∧ (s.testMonitors o).pending = s.pending := by
  unfold State.testMonitors; dsimp only; split <;> simp [Ix.all]

/-- The wire-loss watch. -/
@[simp] theorem State.watchWires_frame (o : Outcome) (s : State) :
    (s.watchWires o).clock = s.clock ∧ (s.watchWires o).free = s.free ∧ (s.watchWires o).pins = s.pins
      ∧ (s.watchWires o).link = s.link ∧ (s.watchWires o).heads = s.heads ∧ (s.watchWires o).table = s.table
      ∧ (s.watchWires o).expo = s.expo ∧ (s.watchWires o).odo = s.odo ∧ (s.watchWires o).mark = s.mark
      ∧ (s.watchWires o).att = s.att ∧ (s.watchWires o).trk = s.trk ∧ (s.watchWires o).run = s.run
      ∧ (s.watchWires o).live = s.live ∧ (s.watchWires o).cal = s.cal ∧ (s.watchWires o).cfg = s.cfg
      ∧ (s.watchWires o).pending = s.pending := by
  unfold State.watchWires; (try dsimp only); (repeat' split) <;> simp

/-- An outcome changes the Span Builder and what it reports. -/
@[simp] theorem State.takeOutcome_frame (o : Outcome) (s : State) :
    (s.takeOutcome o).clock = s.clock ∧ (s.takeOutcome o).free = s.free ∧ (s.takeOutcome o).pins = s.pins
      ∧ (s.takeOutcome o).link = s.link ∧ (s.takeOutcome o).heads = s.heads ∧ (s.takeOutcome o).table = s.table
      ∧ (s.takeOutcome o).expo = s.expo ∧ (s.takeOutcome o).odo = s.odo ∧ (s.takeOutcome o).mark = s.mark
      ∧ (s.takeOutcome o).att = s.att ∧ (s.takeOutcome o).trk = s.trk ∧ (s.takeOutcome o).run = s.run
      ∧ (s.takeOutcome o).live = s.live ∧ (s.takeOutcome o).cal = s.cal ∧ (s.takeOutcome o).cfg = s.cfg
      ∧ (s.takeOutcome o).pending = s.pending := by
  unfold State.takeOutcome; simp

/-- A span closes. -/
@[simp] theorem State.closeSpan_frame (r : CloseReason) (e : Int) (src : Source) (s : State) :
    (s.closeSpan r e src).clock = s.clock ∧ (s.closeSpan r e src).free = s.free
      ∧ (s.closeSpan r e src).pins = s.pins ∧ (s.closeSpan r e src).link = s.link
      ∧ (s.closeSpan r e src).heads = s.heads ∧ (s.closeSpan r e src).table = s.table
      ∧ (s.closeSpan r e src).expo = s.expo ∧ (s.closeSpan r e src).odo = s.odo
      ∧ (s.closeSpan r e src).mark = s.mark ∧ (s.closeSpan r e src).att = s.att ∧ (s.closeSpan r e src).trk = s.trk
      ∧ (s.closeSpan r e src).run = s.run ∧ (s.closeSpan r e src).live = s.live ∧ (s.closeSpan r e src).cal = s.cal
      ∧ (s.closeSpan r e src).cfg = s.cfg ∧ (s.closeSpan r e src).pending = s.pending := by
  unfold State.closeSpan; (try dsimp only); (repeat' split) <;> simp

/-- A new wire type takes effect. -/
@[simp] theorem State.changeWireType_frame (s : State) :
    (s.changeWireType).clock = s.clock ∧ (s.changeWireType).free = s.free ∧ (s.changeWireType).pins = s.pins
      ∧ (s.changeWireType).link = s.link ∧ (s.changeWireType).heads = s.heads ∧ (s.changeWireType).table = s.table
      ∧ (s.changeWireType).expo = s.expo ∧ (s.changeWireType).odo = s.odo ∧ (s.changeWireType).mark = s.mark
      ∧ (s.changeWireType).att = s.att ∧ (s.changeWireType).run = s.run ∧ (s.changeWireType).live = s.live
      ∧ (s.changeWireType).cal = s.cal ∧ (s.changeWireType).cfg = s.cfg ∧ (s.changeWireType).pending = s.pending := by
  unfold State.changeWireType; simp

/-- Span marks cleared. -/
@[simp] theorem State.clearSpanMarks_frame (s : State) :
    (s.clearSpanMarks).clock = s.clock ∧ (s.clearSpanMarks).free = s.free ∧ (s.clearSpanMarks).pins = s.pins
      ∧ (s.clearSpanMarks).link = s.link ∧ (s.clearSpanMarks).heads = s.heads ∧ (s.clearSpanMarks).table = s.table
      ∧ (s.clearSpanMarks).expo = s.expo ∧ (s.clearSpanMarks).odo = s.odo ∧ (s.clearSpanMarks).mark = s.mark
      ∧ (s.clearSpanMarks).att = s.att ∧ (s.clearSpanMarks).trk = s.trk ∧ (s.clearSpanMarks).span = s.span
      ∧ (s.clearSpanMarks).run = s.run ∧ (s.clearSpanMarks).live = s.live ∧ (s.clearSpanMarks).cal = s.cal
      ∧ (s.clearSpanMarks).cfg = s.cfg ∧ (s.clearSpanMarks).pending = s.pending :=
  ⟨rfl, rfl, rfl, rfl, rfl, rfl, rfl, rfl, rfl, rfl, rfl, rfl, rfl, rfl, rfl, rfl, rfl⟩

/-- A span opens. -/
@[simp] theorem State.openSpan_frame (src : Source) (r : SpanRec) (s : State) :
    (s.openSpan src r).clock = s.clock ∧ (s.openSpan src r).free = s.free ∧ (s.openSpan src r).pins = s.pins
      ∧ (s.openSpan src r).link = s.link ∧ (s.openSpan src r).heads = s.heads ∧ (s.openSpan src r).table = s.table
      ∧ (s.openSpan src r).expo = s.expo ∧ (s.openSpan src r).odo = s.odo ∧ (s.openSpan src r).mark = s.mark
      ∧ (s.openSpan src r).att = s.att ∧ (s.openSpan src r).run = s.run ∧ (s.openSpan src r).live = s.live
      ∧ (s.openSpan src r).cal = s.cal ∧ (s.openSpan src r).pending = s.pending := by
  unfold State.openSpan; (try dsimp only); (repeat' split) <;> simp

/-- A candidate asserts. -/
@[simp] theorem State.candidateAsserted_frame (p : Int) (src : Source) (s : State) :
    (s.candidateAsserted p src).clock = s.clock ∧ (s.candidateAsserted p src).free = s.free
      ∧ (s.candidateAsserted p src).pins = s.pins ∧ (s.candidateAsserted p src).link = s.link
      ∧ (s.candidateAsserted p src).heads = s.heads ∧ (s.candidateAsserted p src).table = s.table
      ∧ (s.candidateAsserted p src).expo = s.expo ∧ (s.candidateAsserted p src).odo = s.odo
      ∧ (s.candidateAsserted p src).mark = s.mark ∧ (s.candidateAsserted p src).att = s.att
      ∧ (s.candidateAsserted p src).trk = s.trk ∧ (s.candidateAsserted p src).run = s.run
      ∧ (s.candidateAsserted p src).live = s.live ∧ (s.candidateAsserted p src).cal = s.cal
      ∧ (s.candidateAsserted p src).cfg = s.cfg ∧ (s.candidateAsserted p src).pending = s.pending := by
  unfold State.candidateAsserted; (try dsimp only); (repeat' split) <;> simp

/-- A candidate qualifies. -/
@[simp] theorem State.settleQualified_frame (src : Source) (c : Candidate) (s : State) :
    (s.settleQualified src c).clock = s.clock ∧ (s.settleQualified src c).free = s.free
      ∧ (s.settleQualified src c).pins = s.pins ∧ (s.settleQualified src c).link = s.link
      ∧ (s.settleQualified src c).heads = s.heads ∧ (s.settleQualified src c).table = s.table
      ∧ (s.settleQualified src c).expo = s.expo ∧ (s.settleQualified src c).odo = s.odo
      ∧ (s.settleQualified src c).mark = s.mark ∧ (s.settleQualified src c).att = s.att
      ∧ (s.settleQualified src c).run = s.run ∧ (s.settleQualified src c).live = s.live
      ∧ (s.settleQualified src c).cal = s.cal ∧ (s.settleQualified src c).pending = s.pending := by
  unfold State.settleQualified; simp

/-- A LONG_SPAN close and its opening. -/
@[simp] theorem State.closeLong_frame (e : Int) (s : State) :
    (s.closeLong e).clock = s.clock ∧ (s.closeLong e).free = s.free ∧ (s.closeLong e).pins = s.pins
      ∧ (s.closeLong e).link = s.link ∧ (s.closeLong e).heads = s.heads ∧ (s.closeLong e).table = s.table
      ∧ (s.closeLong e).expo = s.expo ∧ (s.closeLong e).odo = s.odo ∧ (s.closeLong e).mark = s.mark
      ∧ (s.closeLong e).att = s.att ∧ (s.closeLong e).run = s.run ∧ (s.closeLong e).live = s.live
      ∧ (s.closeLong e).cal = s.cal ∧ (s.closeLong e).pending = s.pending := by
  unfold State.closeLong; simp

/-- A candidate fails. -/
@[simp] theorem State.candidateFailed_frame (s : State) :
    (s.candidateFailed).clock = s.clock ∧ (s.candidateFailed).free = s.free ∧ (s.candidateFailed).pins = s.pins
      ∧ (s.candidateFailed).link = s.link ∧ (s.candidateFailed).heads = s.heads
      ∧ (s.candidateFailed).table = s.table ∧ (s.candidateFailed).expo = s.expo ∧ (s.candidateFailed).odo = s.odo
      ∧ (s.candidateFailed).mark = s.mark ∧ (s.candidateFailed).att = s.att ∧ (s.candidateFailed).run = s.run
      ∧ (s.candidateFailed).live = s.live ∧ (s.candidateFailed).cal = s.cal
      ∧ (s.candidateFailed).pending = s.pending := by
  unfold State.candidateFailed; (try dsimp only); (repeat' split) <;> simp

/-- The span maximum at a change of position. -/
@[simp] theorem State.checkSpanMaximum_frame (s : State) :
    (s.checkSpanMaximum).clock = s.clock ∧ (s.checkSpanMaximum).free = s.free ∧ (s.checkSpanMaximum).pins = s.pins
      ∧ (s.checkSpanMaximum).link = s.link ∧ (s.checkSpanMaximum).heads = s.heads
      ∧ (s.checkSpanMaximum).table = s.table ∧ (s.checkSpanMaximum).expo = s.expo ∧ (s.checkSpanMaximum).odo = s.odo
      ∧ (s.checkSpanMaximum).mark = s.mark ∧ (s.checkSpanMaximum).att = s.att ∧ (s.checkSpanMaximum).run = s.run
      ∧ (s.checkSpanMaximum).live = s.live ∧ (s.checkSpanMaximum).cal = s.cal
      ∧ (s.checkSpanMaximum).pending = s.pending := by
  unfold State.checkSpanMaximum; (try dsimp only); (repeat' split) <;> simp

/-- What the Span Builder holds is closed. -/
@[simp] theorem State.tearDownSpans_frame (r : CloseReason) (e : Int) (s : State) :
    (s.tearDownSpans r e).clock = s.clock ∧ (s.tearDownSpans r e).free = s.free
      ∧ (s.tearDownSpans r e).pins = s.pins ∧ (s.tearDownSpans r e).link = s.link
      ∧ (s.tearDownSpans r e).heads = s.heads ∧ (s.tearDownSpans r e).table = s.table
      ∧ (s.tearDownSpans r e).expo = s.expo ∧ (s.tearDownSpans r e).odo = s.odo
      ∧ (s.tearDownSpans r e).mark = s.mark ∧ (s.tearDownSpans r e).att = s.att ∧ (s.tearDownSpans r e).trk = s.trk
      ∧ (s.tearDownSpans r e).run = s.run ∧ (s.tearDownSpans r e).live = s.live ∧ (s.tearDownSpans r e).cal = s.cal
      ∧ (s.tearDownSpans r e).cfg = s.cfg ∧ (s.tearDownSpans r e).pending = s.pending := by
  unfold State.tearDownSpans; simp

/-- A skip counted in its span. -/
@[simp] theorem State.skipInSpan_frame (s : State) :
    (s.skipInSpan).clock = s.clock ∧ (s.skipInSpan).free = s.free ∧ (s.skipInSpan).pins = s.pins
      ∧ (s.skipInSpan).link = s.link ∧ (s.skipInSpan).heads = s.heads ∧ (s.skipInSpan).table = s.table
      ∧ (s.skipInSpan).expo = s.expo ∧ (s.skipInSpan).odo = s.odo ∧ (s.skipInSpan).mark = s.mark
      ∧ (s.skipInSpan).att = s.att ∧ (s.skipInSpan).trk = s.trk ∧ (s.skipInSpan).run = s.run
      ∧ (s.skipInSpan).rep = s.rep ∧ (s.skipInSpan).live = s.live ∧ (s.skipInSpan).cal = s.cal
      ∧ (s.skipInSpan).cfg = s.cfg ∧ (s.skipInSpan).pending = s.pending :=
  ⟨rfl, rfl, rfl, rfl, rfl, rfl, rfl, rfl, rfl, rfl, rfl, rfl, rfl, rfl, rfl, rfl, rfl⟩

/-! ### The Wire Tracker (R90 to R112) -/

/-- TRACK_SLOTS_FULL for each return dropped. -/
@[simp] theorem State.raiseSlotsFull_frame (vs : List Int) (s : State) :
    (State.raiseSlotsFull vs s).clock = s.clock ∧ (State.raiseSlotsFull vs s).free = s.free
      ∧ (State.raiseSlotsFull vs s).pins = s.pins ∧ (State.raiseSlotsFull vs s).link = s.link
      ∧ (State.raiseSlotsFull vs s).heads = s.heads ∧ (State.raiseSlotsFull vs s).table = s.table
      ∧ (State.raiseSlotsFull vs s).expo = s.expo ∧ (State.raiseSlotsFull vs s).odo = s.odo
      ∧ (State.raiseSlotsFull vs s).mark = s.mark ∧ (State.raiseSlotsFull vs s).att = s.att
      ∧ (State.raiseSlotsFull vs s).trk = s.trk ∧ (State.raiseSlotsFull vs s).span = s.span
      ∧ (State.raiseSlotsFull vs s).run = s.run ∧ (State.raiseSlotsFull vs s).live = s.live
      ∧ (State.raiseSlotsFull vs s).cal = s.cal ∧ (State.raiseSlotsFull vs s).cfg = s.cfg
      ∧ (State.raiseSlotsFull vs s).pending = s.pending := by
  induction vs generalizing s with
  | nil => simp [State.raiseSlotsFull]
  | cons v vs ih => simp [State.raiseSlotsFull, ih]

/-- A scan tracked. -/
@[simp] theorem State.track_frame (sc : Scan) (s : State) :
    (s.track sc).1.clock = s.clock ∧ (s.track sc).1.free = s.free ∧ (s.track sc).1.pins = s.pins
      ∧ (s.track sc).1.link = s.link ∧ (s.track sc).1.heads = s.heads ∧ (s.track sc).1.table = s.table
      ∧ (s.track sc).1.expo = s.expo ∧ (s.track sc).1.odo = s.odo ∧ (s.track sc).1.mark = s.mark
      ∧ (s.track sc).1.att = s.att ∧ (s.track sc).1.span = s.span ∧ (s.track sc).1.run = s.run
      ∧ (s.track sc).1.cal = s.cal ∧ (s.track sc).1.cfg = s.cfg ∧ (s.track sc).1.pending = s.pending := by
  unfold State.track; simp

/-- Every slot FREE. -/
@[simp] theorem State.clearTracks_frame (s : State) :
    (s.clearTracks).clock = s.clock ∧ (s.clearTracks).free = s.free ∧ (s.clearTracks).pins = s.pins
      ∧ (s.clearTracks).link = s.link ∧ (s.clearTracks).heads = s.heads ∧ (s.clearTracks).table = s.table
      ∧ (s.clearTracks).expo = s.expo ∧ (s.clearTracks).odo = s.odo ∧ (s.clearTracks).mark = s.mark
      ∧ (s.clearTracks).att = s.att ∧ (s.clearTracks).span = s.span ∧ (s.clearTracks).run = s.run
      ∧ (s.clearTracks).rep = s.rep ∧ (s.clearTracks).cal = s.cal ∧ (s.clearTracks).cfg = s.cfg
      ∧ (s.clearTracks).pending = s.pending :=
  ⟨rfl, rfl, rfl, rfl, rfl, rfl, rfl, rfl, rfl, rfl, rfl, rfl, rfl, rfl, rfl, rfl⟩

/-! ### The Run Controller (R136 to R147) -/

/-- The run state changes. -/
@[simp] theorem State.changeRun_frame (new : RunState) (c : RunCause) (fc : Option FaultCode) (cl : Option Word32) (fu : Option Int) (s : State) :
    (s.changeRun new c fc cl fu).clock = s.clock ∧ (s.changeRun new c fc cl fu).free = s.free
      ∧ (s.changeRun new c fc cl fu).pins = s.pins ∧ (s.changeRun new c fc cl fu).link = s.link
      ∧ (s.changeRun new c fc cl fu).heads = s.heads ∧ (s.changeRun new c fc cl fu).table = s.table
      ∧ (s.changeRun new c fc cl fu).expo = s.expo ∧ (s.changeRun new c fc cl fu).odo = s.odo
      ∧ (s.changeRun new c fc cl fu).mark = s.mark ∧ (s.changeRun new c fc cl fu).att = s.att
      ∧ (s.changeRun new c fc cl fu).trk = s.trk ∧ (s.changeRun new c fc cl fu).span = s.span
      ∧ (s.changeRun new c fc cl fu).live = s.live ∧ (s.changeRun new c fc cl fu).cal = s.cal
      ∧ (s.changeRun new c fc cl fu).cfg = s.cfg ∧ (s.changeRun new c fc cl fu).pending = s.pending := by
  unfold State.changeRun; simp

/-- The charge guard starts. -/
@[simp] theorem State.startGuard_frame (s : State) :
    (s.startGuard).clock = s.clock ∧ (s.startGuard).free = s.free ∧ (s.startGuard).pins = s.pins
      ∧ (s.startGuard).link = s.link ∧ (s.startGuard).heads = s.heads ∧ (s.startGuard).table = s.table
      ∧ (s.startGuard).odo = s.odo ∧ (s.startGuard).mark = s.mark ∧ (s.startGuard).att = s.att
      ∧ (s.startGuard).trk = s.trk ∧ (s.startGuard).span = s.span ∧ (s.startGuard).run = s.run
      ∧ (s.startGuard).rep = s.rep ∧ (s.startGuard).live = s.live ∧ (s.startGuard).cal = s.cal
      ∧ (s.startGuard).cfg = s.cfg ∧ (s.startGuard).pending = s.pending := by
  unfold State.startGuard; (try dsimp only); (repeat' split) <;> simp

/-- An exposure ends at once. -/
@[simp] theorem State.endExposure_frame (s : State) :
    (s.endExposure).clock = s.clock ∧ (s.endExposure).free = s.free ∧ (s.endExposure).pins = s.pins
      ∧ (s.endExposure).link = s.link ∧ (s.endExposure).heads = s.heads ∧ (s.endExposure).table = s.table
      ∧ (s.endExposure).odo = s.odo ∧ (s.endExposure).mark = s.mark ∧ (s.endExposure).att = s.att
      ∧ (s.endExposure).trk = s.trk ∧ (s.endExposure).span = s.span ∧ (s.endExposure).run = s.run
      ∧ (s.endExposure).rep = s.rep ∧ (s.endExposure).live = s.live ∧ (s.endExposure).cal = s.cal
      ∧ (s.endExposure).cfg = s.cfg ∧ (s.endExposure).pending = s.pending := by
  unfold State.endExposure; (try dsimp only); (repeat' split) <;> simp

/-- The first qualification. -/
@[simp] theorem State.startMeasuring_frame (s : State) :
    (s.startMeasuring).clock = s.clock ∧ (s.startMeasuring).free = s.free ∧ (s.startMeasuring).pins = s.pins
      ∧ (s.startMeasuring).link = s.link ∧ (s.startMeasuring).heads = s.heads ∧ (s.startMeasuring).table = s.table
      ∧ (s.startMeasuring).expo = s.expo ∧ (s.startMeasuring).odo = s.odo ∧ (s.startMeasuring).mark = s.mark
      ∧ (s.startMeasuring).att = s.att ∧ (s.startMeasuring).trk = s.trk ∧ (s.startMeasuring).live = s.live
      ∧ (s.startMeasuring).cal = s.cal ∧ (s.startMeasuring).cfg = s.cfg ∧ (s.startMeasuring).pending = s.pending := by
  unfold State.startMeasuring; simp

/-- A qualified report. -/
@[simp] theorem State.candidateQualified_frame (src : Source) (s : State) :
    (s.candidateQualified src).clock = s.clock ∧ (s.candidateQualified src).free = s.free
      ∧ (s.candidateQualified src).pins = s.pins ∧ (s.candidateQualified src).link = s.link
      ∧ (s.candidateQualified src).heads = s.heads ∧ (s.candidateQualified src).table = s.table
      ∧ (s.candidateQualified src).expo = s.expo ∧ (s.candidateQualified src).odo = s.odo
      ∧ (s.candidateQualified src).mark = s.mark ∧ (s.candidateQualified src).att = s.att
      ∧ (s.candidateQualified src).live = s.live ∧ (s.candidateQualified src).cal = s.cal
      ∧ (s.candidateQualified src).pending = s.pending := by
  unfold State.candidateQualified; (try dsimp only); (repeat' split) <;> simp

/-- The run pauses. -/
@[simp] theorem State.pauseRun_frame (f : Int) (s : State) :
    (s.pauseRun f).clock = s.clock ∧ (s.pauseRun f).free = s.free ∧ (s.pauseRun f).pins = s.pins
      ∧ (s.pauseRun f).link = s.link ∧ (s.pauseRun f).heads = s.heads ∧ (s.pauseRun f).table = s.table
      ∧ (s.pauseRun f).expo = s.expo ∧ (s.pauseRun f).odo = s.odo ∧ (s.pauseRun f).mark = s.mark
      ∧ (s.pauseRun f).att = s.att ∧ (s.pauseRun f).cal = s.cal ∧ (s.pauseRun f).cfg = s.cfg
      ∧ (s.pauseRun f).pending = s.pending := by
  unfold State.pauseRun; (try dsimp only); (repeat' split) <;> simp

/-- The run resumes. -/
@[simp] theorem State.resumeRun_frame (s : State) :
    (s.resumeRun).clock = s.clock ∧ (s.resumeRun).free = s.free ∧ (s.resumeRun).pins = s.pins
      ∧ (s.resumeRun).link = s.link ∧ (s.resumeRun).heads = s.heads ∧ (s.resumeRun).table = s.table
      ∧ (s.resumeRun).expo = s.expo ∧ (s.resumeRun).odo = s.odo ∧ (s.resumeRun).mark = s.mark
      ∧ (s.resumeRun).att = s.att ∧ (s.resumeRun).trk = s.trk ∧ (s.resumeRun).span = s.span
      ∧ (s.resumeRun).live = s.live ∧ (s.resumeRun).cal = s.cal ∧ (s.resumeRun).cfg = s.cfg
      ∧ (s.resumeRun).pending = s.pending := by
  unfold State.resumeRun; (try dsimp only); (repeat' split) <;> simp

/-- The exposure at the entry into FAULTED. -/
@[simp] theorem State.faultExposure_frame (s : State) :
    (s.faultExposure).clock = s.clock ∧ (s.faultExposure).free = s.free ∧ (s.faultExposure).pins = s.pins
      ∧ (s.faultExposure).link = s.link ∧ (s.faultExposure).heads = s.heads ∧ (s.faultExposure).table = s.table
      ∧ (s.faultExposure).odo = s.odo ∧ (s.faultExposure).mark = s.mark ∧ (s.faultExposure).att = s.att
      ∧ (s.faultExposure).trk = s.trk ∧ (s.faultExposure).span = s.span ∧ (s.faultExposure).run = s.run
      ∧ (s.faultExposure).rep = s.rep ∧ (s.faultExposure).live = s.live ∧ (s.faultExposure).cal = s.cal
      ∧ (s.faultExposure).cfg = s.cfg ∧ (s.faultExposure).pending = s.pending := by
  unfold State.faultExposure; (try dsimp only); (repeat' split) <;> simp

/-- The run faults. -/
@[simp] theorem State.enterFaulted_frame (c : FaultCode) (s : State) :
    (s.enterFaulted c).clock = s.clock ∧ (s.enterFaulted c).free = s.free ∧ (s.enterFaulted c).pins = s.pins
      ∧ (s.enterFaulted c).link = s.link ∧ (s.enterFaulted c).heads = s.heads ∧ (s.enterFaulted c).odo = s.odo
      ∧ (s.enterFaulted c).mark = s.mark ∧ (s.enterFaulted c).att = s.att ∧ (s.enterFaulted c).cal = s.cal
      ∧ (s.enterFaulted c).cfg = s.cfg ∧ (s.enterFaulted c).pending = s.pending := by
  unfold State.enterFaulted; simp

/-- A halting fault. -/
@[simp] theorem State.raiseHalting_frame (c : FaultCode) (v : FaultValue) (s : State) :
    (s.raiseHalting c v).clock = s.clock ∧ (s.raiseHalting c v).free = s.free ∧ (s.raiseHalting c v).pins = s.pins
      ∧ (s.raiseHalting c v).link = s.link ∧ (s.raiseHalting c v).heads = s.heads ∧ (s.raiseHalting c v).odo = s.odo
      ∧ (s.raiseHalting c v).mark = s.mark ∧ (s.raiseHalting c v).att = s.att ∧ (s.raiseHalting c v).cal = s.cal
      ∧ (s.raiseHalting c v).cfg = s.cfg ∧ (s.raiseHalting c v).pending = s.pending := by
  unfold State.raiseHalting; (try dsimp only); (repeat' split) <;> simp

/-- Both marks cleared. -/
@[simp] theorem State.clearMarks_frame (s : State) :
    (s.clearMarks).clock = s.clock ∧ (s.clearMarks).free = s.free ∧ (s.clearMarks).pins = s.pins
      ∧ (s.clearMarks).link = s.link ∧ (s.clearMarks).heads = s.heads ∧ (s.clearMarks).table = s.table
      ∧ (s.clearMarks).expo = s.expo ∧ (s.clearMarks).odo = s.odo ∧ (s.clearMarks).mark = s.mark
      ∧ (s.clearMarks).att = s.att ∧ (s.clearMarks).trk = s.trk ∧ (s.clearMarks).span = s.span
      ∧ (s.clearMarks).run = s.run ∧ (s.clearMarks).live = s.live ∧ (s.clearMarks).cal = s.cal
      ∧ (s.clearMarks).cfg = s.cfg ∧ (s.clearMarks).pending = s.pending :=
  ⟨rfl, rfl, rfl, rfl, rfl, rfl, rfl, rfl, rfl, rfl, rfl, rfl, rfl, rfl, rfl, rfl, rfl⟩

/-- START_RUN taken. -/
@[simp] theorem State.startRun_frame (p : Int) (s : State) :
    (s.startRun p).clock = s.clock ∧ (s.startRun p).free = s.free ∧ (s.startRun p).pins = s.pins
      ∧ (s.startRun p).link = s.link ∧ (s.startRun p).heads = s.heads ∧ (s.startRun p).table = s.table
      ∧ (s.startRun p).att = s.att ∧ (s.startRun p).live = s.live ∧ (s.startRun p).cal = s.cal
      ∧ (s.startRun p).cfg = s.cfg ∧ (s.startRun p).pending = s.pending := by
  unfold State.startRun; simp

/-- STOP_RUN taken. -/
@[simp] theorem State.stopRun_frame (s : State) :
    (s.stopRun).clock = s.clock ∧ (s.stopRun).free = s.free ∧ (s.stopRun).pins = s.pins ∧ (s.stopRun).link = s.link
      ∧ (s.stopRun).heads = s.heads ∧ (s.stopRun).odo = s.odo ∧ (s.stopRun).att = s.att ∧ (s.stopRun).cal = s.cal
      ∧ (s.stopRun).pending = s.pending := by
  unfold State.stopRun; simp

/-- The STOP_RUN reply. -/
@[simp] theorem State.answerStop_frame (cl : Option Word32) (s : State) :
    (s.answerStop cl).clock = s.clock ∧ (s.answerStop cl).free = s.free ∧ (s.answerStop cl).pins = s.pins
      ∧ (s.answerStop cl).heads = s.heads ∧ (s.answerStop cl).table = s.table ∧ (s.answerStop cl).expo = s.expo
      ∧ (s.answerStop cl).odo = s.odo ∧ (s.answerStop cl).mark = s.mark ∧ (s.answerStop cl).att = s.att
      ∧ (s.answerStop cl).trk = s.trk ∧ (s.answerStop cl).span = s.span ∧ (s.answerStop cl).run = s.run
      ∧ (s.answerStop cl).rep = s.rep ∧ (s.answerStop cl).live = s.live ∧ (s.answerStop cl).cal = s.cal
      ∧ (s.answerStop cl).cfg = s.cfg ∧ (s.answerStop cl).pending = s.pending := by
  unfold State.answerStop; (try dsimp only); (repeat' split) <;> simp

/-- A held STOP_RUN reply. -/
@[simp] theorem State.releaseStop_frame (s : State) :
    (s.releaseStop).clock = s.clock ∧ (s.releaseStop).free = s.free ∧ (s.releaseStop).pins = s.pins
      ∧ (s.releaseStop).heads = s.heads ∧ (s.releaseStop).table = s.table ∧ (s.releaseStop).expo = s.expo
      ∧ (s.releaseStop).odo = s.odo ∧ (s.releaseStop).mark = s.mark ∧ (s.releaseStop).att = s.att
      ∧ (s.releaseStop).trk = s.trk ∧ (s.releaseStop).span = s.span ∧ (s.releaseStop).run = s.run
      ∧ (s.releaseStop).rep = s.rep ∧ (s.releaseStop).live = s.live ∧ (s.releaseStop).cal = s.cal
      ∧ (s.releaseStop).cfg = s.cfg ∧ (s.releaseStop).pending = s.pending := by
  unfold State.releaseStop; (try dsimp only); (repeat' split) <;> simp

/-! ### The Exposure Controller (R20 to R39) -/

/-- The fault of a skip. -/
@[simp] theorem State.raiseSkip_frame (r : SkipReason) (s : State) :
    (s.raiseSkip r).clock = s.clock ∧ (s.raiseSkip r).free = s.free ∧ (s.raiseSkip r).pins = s.pins
      ∧ (s.raiseSkip r).link = s.link ∧ (s.raiseSkip r).heads = s.heads ∧ (s.raiseSkip r).table = s.table
      ∧ (s.raiseSkip r).expo = s.expo ∧ (s.raiseSkip r).odo = s.odo ∧ (s.raiseSkip r).mark = s.mark
      ∧ (s.raiseSkip r).att = s.att ∧ (s.raiseSkip r).trk = s.trk ∧ (s.raiseSkip r).span = s.span
      ∧ (s.raiseSkip r).run = s.run ∧ (s.raiseSkip r).live = s.live ∧ (s.raiseSkip r).cal = s.cal
      ∧ (s.raiseSkip r).cfg = s.cfg ∧ (s.raiseSkip r).pending = s.pending := by
  unfold State.raiseSkip; cases r <;> simp

/-- A skip. -/
@[simp] theorem State.skip_frame (r : SkipReason) (s : State) :
    (s.skip r).clock = s.clock ∧ (s.skip r).free = s.free ∧ (s.skip r).pins = s.pins ∧ (s.skip r).link = s.link
      ∧ (s.skip r).heads = s.heads ∧ (s.skip r).table = s.table ∧ (s.skip r).odo = s.odo ∧ (s.skip r).mark = s.mark
      ∧ (s.skip r).att = s.att ∧ (s.skip r).trk = s.trk ∧ (s.skip r).run = s.run ∧ (s.skip r).cal = s.cal
      ∧ (s.skip r).cfg = s.cfg ∧ (s.skip r).pending = s.pending := by
  unfold State.skip; simp

/-- Several skips. -/
@[simp] theorem State.skipTimes_frame (r : SkipReason) (n : Nat) (s : State) :
    (State.skipTimes r n s).clock = s.clock ∧ (State.skipTimes r n s).free = s.free
      ∧ (State.skipTimes r n s).pins = s.pins ∧ (State.skipTimes r n s).link = s.link
      ∧ (State.skipTimes r n s).heads = s.heads ∧ (State.skipTimes r n s).table = s.table
      ∧ (State.skipTimes r n s).odo = s.odo ∧ (State.skipTimes r n s).mark = s.mark
      ∧ (State.skipTimes r n s).att = s.att ∧ (State.skipTimes r n s).trk = s.trk
      ∧ (State.skipTimes r n s).run = s.run ∧ (State.skipTimes r n s).cal = s.cal
      ∧ (State.skipTimes r n s).cfg = s.cfg ∧ (State.skipTimes r n s).pending = s.pending := by
  induction n generalizing s with
  | zero => simp [State.skipTimes]
  | succ n ih => simp [State.skipTimes, ih]

/-- A staged EXPOSURE set becomes active. -/
@[simp] theorem State.applyStagedExposure_frame (s : State) :
    (s.applyStagedExposure).clock = s.clock ∧ (s.applyStagedExposure).free = s.free
      ∧ (s.applyStagedExposure).pins = s.pins ∧ (s.applyStagedExposure).link = s.link
      ∧ (s.applyStagedExposure).heads = s.heads ∧ (s.applyStagedExposure).table = s.table
      ∧ (s.applyStagedExposure).odo = s.odo ∧ (s.applyStagedExposure).mark = s.mark
      ∧ (s.applyStagedExposure).att = s.att ∧ (s.applyStagedExposure).trk = s.trk
      ∧ (s.applyStagedExposure).span = s.span ∧ (s.applyStagedExposure).run = s.run
      ∧ (s.applyStagedExposure).rep = s.rep ∧ (s.applyStagedExposure).live = s.live
      ∧ (s.applyStagedExposure).cal = s.cal ∧ (s.applyStagedExposure).pending = s.pending := by
  unfold State.applyStagedExposure; (try dsimp only); (repeat' split) <;> simp

/-- An exposure begins. -/
@[simp] theorem State.beginExposure_frame (n : Word32) (s : State) :
    (s.beginExposure n).clock = s.clock ∧ (s.beginExposure n).free = s.free ∧ (s.beginExposure n).pins = s.pins
      ∧ (s.beginExposure n).link = s.link ∧ (s.beginExposure n).odo = s.odo ∧ (s.beginExposure n).mark = s.mark
      ∧ (s.beginExposure n).att = s.att ∧ (s.beginExposure n).trk = s.trk ∧ (s.beginExposure n).span = s.span
      ∧ (s.beginExposure n).run = s.run ∧ (s.beginExposure n).rep = s.rep ∧ (s.beginExposure n).live = s.live
      ∧ (s.beginExposure n).cal = s.cal ∧ (s.beginExposure n).cfg = s.cfg ∧ (s.beginExposure n).pending = s.pending :=
  ⟨rfl, rfl, rfl, rfl, rfl, rfl, rfl, rfl, rfl, rfl, rfl, rfl, rfl, rfl, rfl⟩

/-- A trigger taken. -/
@[simp] theorem State.takeTrigger_frame (s : State) :
    (s.takeTrigger).clock = s.clock ∧ (s.takeTrigger).free = s.free ∧ (s.takeTrigger).pins = s.pins
      ∧ (s.takeTrigger).link = s.link ∧ (s.takeTrigger).odo = s.odo ∧ (s.takeTrigger).mark = s.mark
      ∧ (s.takeTrigger).att = s.att ∧ (s.takeTrigger).trk = s.trk ∧ (s.takeTrigger).span = s.span
      ∧ (s.takeTrigger).run = s.run ∧ (s.takeTrigger).rep = s.rep ∧ (s.takeTrigger).cal = s.cal
      ∧ (s.takeTrigger).pending = s.pending := by
  unfold State.takeTrigger; simp

/-- A trigger taken or skipped. -/
@[simp] theorem State.trigger_frame (s : State) :
    (s.trigger).clock = s.clock ∧ (s.trigger).free = s.free ∧ (s.trigger).pins = s.pins ∧ (s.trigger).link = s.link
      ∧ (s.trigger).odo = s.odo ∧ (s.trigger).mark = s.mark ∧ (s.trigger).att = s.att ∧ (s.trigger).trk = s.trk
      ∧ (s.trigger).run = s.run ∧ (s.trigger).cal = s.cal ∧ (s.trigger).pending = s.pending := by
  unfold State.trigger; (try dsimp only); (repeat' split) <;> simp

/-- The distance grid at a change of position. -/
@[simp] theorem State.advanceGrid_frame (old : Int) (s : State) :
    (s.advanceGrid old).clock = s.clock ∧ (s.advanceGrid old).free = s.free ∧ (s.advanceGrid old).pins = s.pins
      ∧ (s.advanceGrid old).link = s.link ∧ (s.advanceGrid old).odo = s.odo ∧ (s.advanceGrid old).mark = s.mark
      ∧ (s.advanceGrid old).att = s.att ∧ (s.advanceGrid old).trk = s.trk ∧ (s.advanceGrid old).run = s.run
      ∧ (s.advanceGrid old).cal = s.cal ∧ (s.advanceGrid old).pending = s.pending := by
  unfold State.advanceGrid; (try dsimp only); (repeat' split) <;> simp

/-- ATT_STALE at a window start. -/
@[simp] theorem State.raiseStale_frame (j : Judged) (s : State) :
    (s.raiseStale j).clock = s.clock ∧ (s.raiseStale j).free = s.free ∧ (s.raiseStale j).pins = s.pins
      ∧ (s.raiseStale j).link = s.link ∧ (s.raiseStale j).heads = s.heads ∧ (s.raiseStale j).table = s.table
      ∧ (s.raiseStale j).expo = s.expo ∧ (s.raiseStale j).odo = s.odo ∧ (s.raiseStale j).mark = s.mark
      ∧ (s.raiseStale j).att = s.att ∧ (s.raiseStale j).trk = s.trk ∧ (s.raiseStale j).span = s.span
      ∧ (s.raiseStale j).run = s.run ∧ (s.raiseStale j).live = s.live ∧ (s.raiseStale j).cal = s.cal
      ∧ (s.raiseStale j).cfg = s.cfg ∧ (s.raiseStale j).pending = s.pending := by
  unfold State.raiseStale; (try dsimp only); (repeat' split) <;> simp

/-- The window starts. -/
@[simp] theorem State.openWindow_frame (s : State) :
    (s.openWindow).clock = s.clock ∧ (s.openWindow).free = s.free ∧ (s.openWindow).pins = s.pins
      ∧ (s.openWindow).link = s.link ∧ (s.openWindow).heads = s.heads ∧ (s.openWindow).odo = s.odo
      ∧ (s.openWindow).mark = s.mark ∧ (s.openWindow).att = s.att ∧ (s.openWindow).trk = s.trk
      ∧ (s.openWindow).span = s.span ∧ (s.openWindow).run = s.run ∧ (s.openWindow).live = s.live
      ∧ (s.openWindow).cal = s.cal ∧ (s.openWindow).cfg = s.cfg ∧ (s.openWindow).pending = s.pending := by
  unfold State.openWindow; simp

/-- The window ends. -/
@[simp] theorem State.closeWindow_frame (s : State) :
    (s.closeWindow).clock = s.clock ∧ (s.closeWindow).free = s.free ∧ (s.closeWindow).pins = s.pins
      ∧ (s.closeWindow).link = s.link ∧ (s.closeWindow).heads = s.heads ∧ (s.closeWindow).odo = s.odo
      ∧ (s.closeWindow).mark = s.mark ∧ (s.closeWindow).att = s.att ∧ (s.closeWindow).trk = s.trk
      ∧ (s.closeWindow).span = s.span ∧ (s.closeWindow).run = s.run ∧ (s.closeWindow).rep = s.rep
      ∧ (s.closeWindow).live = s.live ∧ (s.closeWindow).cal = s.cal ∧ (s.closeWindow).cfg = s.cfg
      ∧ (s.closeWindow).pending = s.pending := by
  unfold State.closeWindow; simp

/-- An on-time ends. -/
@[simp] theorem State.pulseOff_frame (b : Burst) (s : State) :
    (s.pulseOff b).clock = s.clock ∧ (s.pulseOff b).free = s.free ∧ (s.pulseOff b).pins = s.pins
      ∧ (s.pulseOff b).link = s.link ∧ (s.pulseOff b).heads = s.heads ∧ (s.pulseOff b).table = s.table
      ∧ (s.pulseOff b).odo = s.odo ∧ (s.pulseOff b).mark = s.mark ∧ (s.pulseOff b).att = s.att
      ∧ (s.pulseOff b).trk = s.trk ∧ (s.pulseOff b).span = s.span ∧ (s.pulseOff b).run = s.run
      ∧ (s.pulseOff b).rep = s.rep ∧ (s.pulseOff b).live = s.live ∧ (s.pulseOff b).cal = s.cal
      ∧ (s.pulseOff b).cfg = s.cfg ∧ (s.pulseOff b).pending = s.pending :=
  ⟨rfl, rfl, rfl, rfl, rfl, rfl, rfl, rfl, rfl, rfl, rfl, rfl, rfl, rfl, rfl, rfl, rfl⟩

/-- A pulse begins. -/
@[simp] theorem State.pulseOn_frame (b : Burst) (s : State) :
    (s.pulseOn b).clock = s.clock ∧ (s.pulseOn b).free = s.free ∧ (s.pulseOn b).pins = s.pins
      ∧ (s.pulseOn b).link = s.link ∧ (s.pulseOn b).heads = s.heads ∧ (s.pulseOn b).table = s.table
      ∧ (s.pulseOn b).odo = s.odo ∧ (s.pulseOn b).mark = s.mark ∧ (s.pulseOn b).att = s.att
      ∧ (s.pulseOn b).trk = s.trk ∧ (s.pulseOn b).span = s.span ∧ (s.pulseOn b).run = s.run
      ∧ (s.pulseOn b).rep = s.rep ∧ (s.pulseOn b).live = s.live ∧ (s.pulseOn b).cal = s.cal
      ∧ (s.pulseOn b).cfg = s.cfg ∧ (s.pulseOn b).pending = s.pending :=
  ⟨rfl, rfl, rfl, rfl, rfl, rfl, rfl, rfl, rfl, rfl, rfl, rfl, rfl, rfl, rfl, rfl, rfl⟩

/-- ILLUM_STUCK. -/
@[simp] theorem State.markStuck_frame (s : State) :
    (s.markStuck).clock = s.clock ∧ (s.markStuck).free = s.free ∧ (s.markStuck).pins = s.pins
      ∧ (s.markStuck).link = s.link ∧ (s.markStuck).heads = s.heads ∧ (s.markStuck).expo = s.expo
      ∧ (s.markStuck).odo = s.odo ∧ (s.markStuck).mark = s.mark ∧ (s.markStuck).att = s.att
      ∧ (s.markStuck).trk = s.trk ∧ (s.markStuck).span = s.span ∧ (s.markStuck).run = s.run
      ∧ (s.markStuck).live = s.live ∧ (s.markStuck).cal = s.cal ∧ (s.markStuck).cfg = s.cfg
      ∧ (s.markStuck).pending = s.pending := by
  unfold State.markStuck; simp

/-- ILLUM_SHORT. -/
@[simp] theorem State.markShort_frame (a : AckCount) (s : State) :
    (s.markShort a).clock = s.clock ∧ (s.markShort a).free = s.free ∧ (s.markShort a).pins = s.pins
      ∧ (s.markShort a).link = s.link ∧ (s.markShort a).heads = s.heads ∧ (s.markShort a).expo = s.expo
      ∧ (s.markShort a).odo = s.odo ∧ (s.markShort a).mark = s.mark ∧ (s.markShort a).att = s.att
      ∧ (s.markShort a).trk = s.trk ∧ (s.markShort a).span = s.span ∧ (s.markShort a).run = s.run
      ∧ (s.markShort a).live = s.live ∧ (s.markShort a).cal = s.cal ∧ (s.markShort a).cfg = s.cfg
      ∧ (s.markShort a).pending = s.pending := by
  unfold State.markShort; simp

/-- An acknowledge count decided. -/
@[simp] theorem State.decideAck_frame (a : AckCount) (s : State) :
    (s.decideAck a).clock = s.clock ∧ (s.decideAck a).free = s.free ∧ (s.decideAck a).pins = s.pins
      ∧ (s.decideAck a).link = s.link ∧ (s.decideAck a).heads = s.heads ∧ (s.decideAck a).odo = s.odo
      ∧ (s.decideAck a).mark = s.mark ∧ (s.decideAck a).att = s.att ∧ (s.decideAck a).trk = s.trk
      ∧ (s.decideAck a).span = s.span ∧ (s.decideAck a).run = s.run ∧ (s.decideAck a).live = s.live
      ∧ (s.decideAck a).cal = s.cal ∧ (s.decideAck a).cfg = s.cfg ∧ (s.decideAck a).pending = s.pending := by
  unfold State.decideAck; (try dsimp only); (repeat' split) <;> simp

/-! ### Head links and delivery (R1 to R19) -/

/-- One head link changes. -/
@[simp] theorem State.changeHead_frame (h : Head) (f : HeadLink → HeadLink) (s : State) :
    (s.changeHead h f).clock = s.clock ∧ (s.changeHead h f).free = s.free ∧ (s.changeHead h f).pins = s.pins
      ∧ (s.changeHead h f).link = s.link ∧ (s.changeHead h f).table = s.table ∧ (s.changeHead h f).expo = s.expo
      ∧ (s.changeHead h f).odo = s.odo ∧ (s.changeHead h f).mark = s.mark ∧ (s.changeHead h f).att = s.att
      ∧ (s.changeHead h f).trk = s.trk ∧ (s.changeHead h f).span = s.span ∧ (s.changeHead h f).run = s.run
      ∧ (s.changeHead h f).rep = s.rep ∧ (s.changeHead h f).live = s.live ∧ (s.changeHead h f).cal = s.cal
      ∧ (s.changeHead h f).cfg = s.cfg ∧ (s.changeHead h f).pending = s.pending :=
  ⟨rfl, rfl, rfl, rfl, rfl, rfl, rfl, rfl, rfl, rfl, rfl, rfl, rfl, rfl, rfl, rfl, rfl⟩

/-- RETURNS_TRUNCATED. -/
@[simp] theorem State.raiseTruncated_frame (n : Nat) (s : State) :
    (s.raiseTruncated n).clock = s.clock ∧ (s.raiseTruncated n).free = s.free ∧ (s.raiseTruncated n).pins = s.pins
      ∧ (s.raiseTruncated n).link = s.link ∧ (s.raiseTruncated n).heads = s.heads
      ∧ (s.raiseTruncated n).table = s.table ∧ (s.raiseTruncated n).expo = s.expo ∧ (s.raiseTruncated n).odo = s.odo
      ∧ (s.raiseTruncated n).mark = s.mark ∧ (s.raiseTruncated n).att = s.att ∧ (s.raiseTruncated n).trk = s.trk
      ∧ (s.raiseTruncated n).span = s.span ∧ (s.raiseTruncated n).run = s.run ∧ (s.raiseTruncated n).live = s.live
      ∧ (s.raiseTruncated n).cal = s.cal ∧ (s.raiseTruncated n).cfg = s.cfg
      ∧ (s.raiseTruncated n).pending = s.pending := by
  unfold State.raiseTruncated; (try dsimp only); (repeat' split) <;> simp

/-- Live slot 3 at a delivery. -/
@[simp] theorem State.touchLiveScan_frame (sc : Scan) (s : State) :
    (s.touchLiveScan sc).clock = s.clock ∧ (s.touchLiveScan sc).free = s.free ∧ (s.touchLiveScan sc).pins = s.pins
      ∧ (s.touchLiveScan sc).link = s.link ∧ (s.touchLiveScan sc).heads = s.heads
      ∧ (s.touchLiveScan sc).table = s.table ∧ (s.touchLiveScan sc).expo = s.expo ∧ (s.touchLiveScan sc).odo = s.odo
      ∧ (s.touchLiveScan sc).mark = s.mark ∧ (s.touchLiveScan sc).att = s.att ∧ (s.touchLiveScan sc).trk = s.trk
      ∧ (s.touchLiveScan sc).span = s.span ∧ (s.touchLiveScan sc).run = s.run ∧ (s.touchLiveScan sc).rep = s.rep
      ∧ (s.touchLiveScan sc).cal = s.cal ∧ (s.touchLiveScan sc).cfg = s.cfg
      ∧ (s.touchLiveScan sc).pending = s.pending :=
  ⟨rfl, rfl, rfl, rfl, rfl, rfl, rfl, rfl, rfl, rfl, rfl, rfl, rfl, rfl, rfl, rfl, rfl⟩

/-- A scan tracked and accumulated, or discarded. -/
@[simp] theorem State.processScan_frame (sc : Scan) (s : State) :
    (s.processScan sc).clock = s.clock ∧ (s.processScan sc).free = s.free ∧ (s.processScan sc).pins = s.pins
      ∧ (s.processScan sc).link = s.link ∧ (s.processScan sc).heads = s.heads ∧ (s.processScan sc).table = s.table
      ∧ (s.processScan sc).expo = s.expo ∧ (s.processScan sc).odo = s.odo ∧ (s.processScan sc).mark = s.mark
      ∧ (s.processScan sc).att = s.att ∧ (s.processScan sc).run = s.run ∧ (s.processScan sc).cal = s.cal
      ∧ (s.processScan sc).cfg = s.cfg ∧ (s.processScan sc).pending = s.pending := by
  unfold State.processScan; (try dsimp only); (repeat' split) <;> simp

/-- An entry delivered as a scan. -/
@[simp] theorem State.deliverScan_frame (e : Entry) (s : State) :
    (s.deliverScan e).clock = s.clock ∧ (s.deliverScan e).free = s.free ∧ (s.deliverScan e).pins = s.pins
      ∧ (s.deliverScan e).link = s.link ∧ (s.deliverScan e).heads = s.heads ∧ (s.deliverScan e).table = s.table
      ∧ (s.deliverScan e).expo = s.expo ∧ (s.deliverScan e).odo = s.odo ∧ (s.deliverScan e).mark = s.mark
      ∧ (s.deliverScan e).att = s.att ∧ (s.deliverScan e).run = s.run ∧ (s.deliverScan e).cal = s.cal
      ∧ (s.deliverScan e).cfg = s.cfg ∧ (s.deliverScan e).pending = s.pending := by
  unfold State.deliverScan; simp

/-- Deliveries in order. -/
@[simp] theorem State.deliverLoop_frame (n : Nat) (s : State) :
    (State.deliverLoop n s).clock = s.clock ∧ (State.deliverLoop n s).free = s.free
      ∧ (State.deliverLoop n s).pins = s.pins ∧ (State.deliverLoop n s).link = s.link
      ∧ (State.deliverLoop n s).heads = s.heads ∧ (State.deliverLoop n s).expo = s.expo
      ∧ (State.deliverLoop n s).odo = s.odo ∧ (State.deliverLoop n s).mark = s.mark
      ∧ (State.deliverLoop n s).att = s.att ∧ (State.deliverLoop n s).run = s.run
      ∧ (State.deliverLoop n s).cal = s.cal ∧ (State.deliverLoop n s).cfg = s.cfg
      ∧ (State.deliverLoop n s).pending = s.pending := by
  induction n generalizing s with
  | zero => simp [State.deliverLoop]
  | succ n ih =>
    unfold State.deliverLoop
    repeat' split
    all_goals simp [ih]

/-- Every delivery that is due. -/
@[simp] theorem State.deliver_frame (s : State) :
    (s.deliver).clock = s.clock ∧ (s.deliver).free = s.free ∧ (s.deliver).pins = s.pins ∧ (s.deliver).link = s.link
      ∧ (s.deliver).heads = s.heads ∧ (s.deliver).expo = s.expo ∧ (s.deliver).odo = s.odo
      ∧ (s.deliver).mark = s.mark ∧ (s.deliver).att = s.att ∧ (s.deliver).run = s.run ∧ (s.deliver).cal = s.cal
      ∧ (s.deliver).cfg = s.cfg ∧ (s.deliver).pending = s.pending := by
  unfold State.deliver; simp

/-- A silence counted. -/
@[simp] theorem State.headSilent_frame (h : Head) (s : State) :
    (s.headSilent h).clock = s.clock ∧ (s.headSilent h).free = s.free ∧ (s.headSilent h).pins = s.pins
      ∧ (s.headSilent h).link = s.link ∧ (s.headSilent h).table = s.table ∧ (s.headSilent h).expo = s.expo
      ∧ (s.headSilent h).odo = s.odo ∧ (s.headSilent h).mark = s.mark ∧ (s.headSilent h).att = s.att
      ∧ (s.headSilent h).trk = s.trk ∧ (s.headSilent h).span = s.span ∧ (s.headSilent h).run = s.run
      ∧ (s.headSilent h).live = s.live ∧ (s.headSilent h).cal = s.cal ∧ (s.headSilent h).cfg = s.cfg
      ∧ (s.headSilent h).pending = s.pending := by
  unfold State.headSilent; (try dsimp only); (repeat' split) <;> simp

/-- A silence counted where one is due. -/
@[simp] theorem State.countIfMissing_frame (e : Entry) (h : Head) (s : State) :
    (s.countIfMissing e h).clock = s.clock ∧ (s.countIfMissing e h).free = s.free
      ∧ (s.countIfMissing e h).pins = s.pins ∧ (s.countIfMissing e h).link = s.link
      ∧ (s.countIfMissing e h).table = s.table ∧ (s.countIfMissing e h).expo = s.expo
      ∧ (s.countIfMissing e h).odo = s.odo ∧ (s.countIfMissing e h).mark = s.mark
      ∧ (s.countIfMissing e h).att = s.att ∧ (s.countIfMissing e h).trk = s.trk
      ∧ (s.countIfMissing e h).span = s.span ∧ (s.countIfMissing e h).run = s.run
      ∧ (s.countIfMissing e h).live = s.live ∧ (s.countIfMissing e h).cal = s.cal
      ∧ (s.countIfMissing e h).cfg = s.cfg ∧ (s.countIfMissing e h).pending = s.pending := by
  unfold State.countIfMissing; (try dsimp only); (repeat' split) <;> simp

/-- HEADS_LOST where it is due. -/
@[simp] theorem State.raiseHeadsLost_frame (b : Pair HeadLink) (s : State) :
    (s.raiseHeadsLost b).clock = s.clock ∧ (s.raiseHeadsLost b).free = s.free ∧ (s.raiseHeadsLost b).pins = s.pins
      ∧ (s.raiseHeadsLost b).link = s.link ∧ (s.raiseHeadsLost b).heads = s.heads ∧ (s.raiseHeadsLost b).odo = s.odo
      ∧ (s.raiseHeadsLost b).mark = s.mark ∧ (s.raiseHeadsLost b).att = s.att ∧ (s.raiseHeadsLost b).cal = s.cal
      ∧ (s.raiseHeadsLost b).cfg = s.cfg ∧ (s.raiseHeadsLost b).pending = s.pending := by
  unfold State.raiseHeadsLost; (try dsimp only); (repeat' split) <;> simp

/-- An entry's timeout. -/
@[simp] theorem State.expireEntry_frame (e : Entry) (s : State) :
    (s.expireEntry e).clock = s.clock ∧ (s.expireEntry e).free = s.free ∧ (s.expireEntry e).pins = s.pins
      ∧ (s.expireEntry e).link = s.link ∧ (s.expireEntry e).odo = s.odo ∧ (s.expireEntry e).mark = s.mark
      ∧ (s.expireEntry e).att = s.att ∧ (s.expireEntry e).cal = s.cal ∧ (s.expireEntry e).cfg = s.cfg
      ∧ (s.expireEntry e).pending = s.pending := by
  unfold State.expireEntry; simp

/-- A head frame not used. -/
@[simp] theorem State.badHeadFrame_frame (h : Head) (r : HeadReason) (s : State) :
    (s.badHeadFrame h r).clock = s.clock ∧ (s.badHeadFrame h r).free = s.free ∧ (s.badHeadFrame h r).pins = s.pins
      ∧ (s.badHeadFrame h r).link = s.link ∧ (s.badHeadFrame h r).table = s.table
      ∧ (s.badHeadFrame h r).expo = s.expo ∧ (s.badHeadFrame h r).odo = s.odo ∧ (s.badHeadFrame h r).mark = s.mark
      ∧ (s.badHeadFrame h r).att = s.att ∧ (s.badHeadFrame h r).trk = s.trk ∧ (s.badHeadFrame h r).span = s.span
      ∧ (s.badHeadFrame h r).run = s.run ∧ (s.badHeadFrame h r).live = s.live ∧ (s.badHeadFrame h r).cal = s.cal
      ∧ (s.badHeadFrame h r).cfg = s.cfg ∧ (s.badHeadFrame h r).pending = s.pending := by
  unfold State.badHeadFrame; simp

/-- A head frame abandoned. -/
@[simp] theorem State.abandonHeadFrame_frame (h : Head) (r : HeadReason) (s : State) :
    (s.abandonHeadFrame h r).clock = s.clock ∧ (s.abandonHeadFrame h r).free = s.free
      ∧ (s.abandonHeadFrame h r).pins = s.pins ∧ (s.abandonHeadFrame h r).link = s.link
      ∧ (s.abandonHeadFrame h r).table = s.table ∧ (s.abandonHeadFrame h r).expo = s.expo
      ∧ (s.abandonHeadFrame h r).odo = s.odo ∧ (s.abandonHeadFrame h r).mark = s.mark
      ∧ (s.abandonHeadFrame h r).att = s.att ∧ (s.abandonHeadFrame h r).trk = s.trk
      ∧ (s.abandonHeadFrame h r).span = s.span ∧ (s.abandonHeadFrame h r).run = s.run
      ∧ (s.abandonHeadFrame h r).live = s.live ∧ (s.abandonHeadFrame h r).cal = s.cal
      ∧ (s.abandonHeadFrame h r).cfg = s.cfg ∧ (s.abandonHeadFrame h r).pending = s.pending := by
  unfold State.abandonHeadFrame; (try dsimp only); (repeat' split) <;> simp

/-- An entry filled. -/
@[simp] theorem State.fillEntry_frame (h : Head) (f : ReturnsFrame) (e : Entry) (s : State) :
    (s.fillEntry h f e).clock = s.clock ∧ (s.fillEntry h f e).free = s.free ∧ (s.fillEntry h f e).pins = s.pins
      ∧ (s.fillEntry h f e).link = s.link ∧ (s.fillEntry h f e).heads = s.heads ∧ (s.fillEntry h f e).expo = s.expo
      ∧ (s.fillEntry h f e).odo = s.odo ∧ (s.fillEntry h f e).mark = s.mark ∧ (s.fillEntry h f e).att = s.att
      ∧ (s.fillEntry h f e).trk = s.trk ∧ (s.fillEntry h f e).span = s.span ∧ (s.fillEntry h f e).run = s.run
      ∧ (s.fillEntry h f e).rep = s.rep ∧ (s.fillEntry h f e).live = s.live ∧ (s.fillEntry h f e).cal = s.cal
      ∧ (s.fillEntry h f e).cfg = s.cfg ∧ (s.fillEntry h f e).pending = s.pending :=
  ⟨rfl, rfl, rfl, rfl, rfl, rfl, rfl, rfl, rfl, rfl, rfl, rfl, rfl, rfl, rfl, rfl, rfl⟩

/-- A valid RETURNS frame. -/
@[simp] theorem State.takeReturns_frame (h : Head) (f : ReturnsFrame) (s : State) :
    (s.takeReturns h f).clock = s.clock ∧ (s.takeReturns h f).free = s.free ∧ (s.takeReturns h f).pins = s.pins
      ∧ (s.takeReturns h f).link = s.link ∧ (s.takeReturns h f).expo = s.expo ∧ (s.takeReturns h f).odo = s.odo
      ∧ (s.takeReturns h f).mark = s.mark ∧ (s.takeReturns h f).att = s.att ∧ (s.takeReturns h f).run = s.run
      ∧ (s.takeReturns h f).cal = s.cal ∧ (s.takeReturns h f).cfg = s.cfg ∧ (s.takeReturns h f).pending = s.pending := by
  unfold State.takeReturns; (try dsimp only); (repeat' split) <;> simp

/-! ### Marker Logic (R50 to R57) -/

/-- A mast report. -/
@[simp] theorem State.takeMastReport_frame (r : Option MastReport) (s : State) :
    (s.takeMastReport r).clock = s.clock ∧ (s.takeMastReport r).free = s.free ∧ (s.takeMastReport r).pins = s.pins
      ∧ (s.takeMastReport r).link = s.link ∧ (s.takeMastReport r).heads = s.heads
      ∧ (s.takeMastReport r).table = s.table ∧ (s.takeMastReport r).expo = s.expo ∧ (s.takeMastReport r).odo = s.odo
      ∧ (s.takeMastReport r).mark = s.mark ∧ (s.takeMastReport r).att = s.att ∧ (s.takeMastReport r).live = s.live
      ∧ (s.takeMastReport r).cal = s.cal ∧ (s.takeMastReport r).pending = s.pending := by
  unfold State.takeMastReport; (try dsimp only); (repeat' split) <;> simp

/-- The mast source moves. -/
@[simp] theorem State.moveMast_frame (m : MastStep) (s : State) :
    (s.moveMast m).clock = s.clock ∧ (s.moveMast m).free = s.free ∧ (s.moveMast m).pins = s.pins
      ∧ (s.moveMast m).link = s.link ∧ (s.moveMast m).heads = s.heads ∧ (s.moveMast m).table = s.table
      ∧ (s.moveMast m).expo = s.expo ∧ (s.moveMast m).odo = s.odo ∧ (s.moveMast m).att = s.att
      ∧ (s.moveMast m).live = s.live ∧ (s.moveMast m).cal = s.cal ∧ (s.moveMast m).pending = s.pending := by
  unfold State.moveMast; simp

/-- The overlap zone. -/
@[simp] theorem State.setZone_frame (z : Bool) (s : State) :
    (s.setZone z).clock = s.clock ∧ (s.setZone z).free = s.free ∧ (s.setZone z).pins = s.pins
      ∧ (s.setZone z).link = s.link ∧ (s.setZone z).heads = s.heads ∧ (s.setZone z).table = s.table
      ∧ (s.setZone z).expo = s.expo ∧ (s.setZone z).odo = s.odo ∧ (s.setZone z).att = s.att
      ∧ (s.setZone z).trk = s.trk ∧ (s.setZone z).span = s.span ∧ (s.setZone z).run = s.run
      ∧ (s.setZone z).live = s.live ∧ (s.setZone z).cal = s.cal ∧ (s.setZone z).cfg = s.cfg
      ∧ (s.setZone z).pending = s.pending := by
  unfold State.setZone; (try dsimp only); (repeat' split) <;> simp

/-- MK3 qualifies. -/
@[simp] theorem State.zoneQualified_frame (s : State) :
    (s.zoneQualified).clock = s.clock ∧ (s.zoneQualified).free = s.free ∧ (s.zoneQualified).pins = s.pins
      ∧ (s.zoneQualified).link = s.link ∧ (s.zoneQualified).heads = s.heads ∧ (s.zoneQualified).table = s.table
      ∧ (s.zoneQualified).expo = s.expo ∧ (s.zoneQualified).odo = s.odo ∧ (s.zoneQualified).att = s.att
      ∧ (s.zoneQualified).trk = s.trk ∧ (s.zoneQualified).span = s.span ∧ (s.zoneQualified).run = s.run
      ∧ (s.zoneQualified).live = s.live ∧ (s.zoneQualified).cal = s.cal ∧ (s.zoneQualified).cfg = s.cfg
      ∧ (s.zoneQualified).pending = s.pending := by
  unfold State.zoneQualified; (try dsimp only); (repeat' split) <;> simp

/-- MK3 is released. -/
@[simp] theorem State.zoneReleased_frame (s : State) :
    (s.zoneReleased).clock = s.clock ∧ (s.zoneReleased).free = s.free ∧ (s.zoneReleased).pins = s.pins
      ∧ (s.zoneReleased).link = s.link ∧ (s.zoneReleased).heads = s.heads ∧ (s.zoneReleased).table = s.table
      ∧ (s.zoneReleased).expo = s.expo ∧ (s.zoneReleased).odo = s.odo ∧ (s.zoneReleased).att = s.att
      ∧ (s.zoneReleased).trk = s.trk ∧ (s.zoneReleased).span = s.span ∧ (s.zoneReleased).run = s.run
      ∧ (s.zoneReleased).live = s.live ∧ (s.zoneReleased).cal = s.cal ∧ (s.zoneReleased).cfg = s.cfg
      ∧ (s.zoneReleased).pending = s.pending := by
  unfold State.zoneReleased; (try dsimp only); (repeat' split) <;> simp

/-- MK4 qualifies. -/
@[simp] theorem State.siteQualified_frame (s : State) :
    (s.siteQualified).clock = s.clock ∧ (s.siteQualified).free = s.free ∧ (s.siteQualified).pins = s.pins
      ∧ (s.siteQualified).link = s.link ∧ (s.siteQualified).heads = s.heads ∧ (s.siteQualified).table = s.table
      ∧ (s.siteQualified).expo = s.expo ∧ (s.siteQualified).odo = s.odo ∧ (s.siteQualified).mark = s.mark
      ∧ (s.siteQualified).att = s.att ∧ (s.siteQualified).trk = s.trk ∧ (s.siteQualified).span = s.span
      ∧ (s.siteQualified).run = s.run ∧ (s.siteQualified).live = s.live ∧ (s.siteQualified).cal = s.cal
      ∧ (s.siteQualified).cfg = s.cfg ∧ (s.siteQualified).pending = s.pending := by
  unfold State.siteQualified; (try dsimp only); (repeat' split) <;> simp

/-- An assertion handed on. -/
@[simp] theorem State.handAssertion_frame (m : Marker) (s : State) :
    (s.handAssertion m).clock = s.clock ∧ (s.handAssertion m).free = s.free ∧ (s.handAssertion m).pins = s.pins
      ∧ (s.handAssertion m).link = s.link ∧ (s.handAssertion m).heads = s.heads
      ∧ (s.handAssertion m).table = s.table ∧ (s.handAssertion m).expo = s.expo ∧ (s.handAssertion m).odo = s.odo
      ∧ (s.handAssertion m).att = s.att ∧ (s.handAssertion m).live = s.live ∧ (s.handAssertion m).cal = s.cal
      ∧ (s.handAssertion m).pending = s.pending := by
  unfold State.handAssertion; (try dsimp only); (repeat' split) <;> simp

/-- A qualification handed on. -/
@[simp] theorem State.handQualification_frame (m : Marker) (s : State) :
    (s.handQualification m).clock = s.clock ∧ (s.handQualification m).free = s.free
      ∧ (s.handQualification m).pins = s.pins ∧ (s.handQualification m).link = s.link
      ∧ (s.handQualification m).heads = s.heads ∧ (s.handQualification m).table = s.table
      ∧ (s.handQualification m).expo = s.expo ∧ (s.handQualification m).odo = s.odo
      ∧ (s.handQualification m).att = s.att ∧ (s.handQualification m).live = s.live
      ∧ (s.handQualification m).cal = s.cal ∧ (s.handQualification m).pending = s.pending := by
  unfold State.handQualification; (repeat' split) <;> simp

/-- A failure handed on. -/
@[simp] theorem State.handFailure_frame (m : Marker) (s : State) :
    (s.handFailure m).clock = s.clock ∧ (s.handFailure m).free = s.free ∧ (s.handFailure m).pins = s.pins
      ∧ (s.handFailure m).link = s.link ∧ (s.handFailure m).heads = s.heads ∧ (s.handFailure m).table = s.table
      ∧ (s.handFailure m).expo = s.expo ∧ (s.handFailure m).odo = s.odo ∧ (s.handFailure m).att = s.att
      ∧ (s.handFailure m).live = s.live ∧ (s.handFailure m).cal = s.cal ∧ (s.handFailure m).pending = s.pending := by
  unfold State.handFailure; (try dsimp only); (repeat' split) <;> simp

/-- A release handed on. -/
@[simp] theorem State.handRelease_frame (m : Marker) (s : State) :
    (s.handRelease m).clock = s.clock ∧ (s.handRelease m).free = s.free ∧ (s.handRelease m).pins = s.pins
      ∧ (s.handRelease m).link = s.link ∧ (s.handRelease m).heads = s.heads ∧ (s.handRelease m).table = s.table
      ∧ (s.handRelease m).expo = s.expo ∧ (s.handRelease m).odo = s.odo ∧ (s.handRelease m).att = s.att
      ∧ (s.handRelease m).live = s.live ∧ (s.handRelease m).cal = s.cal ∧ (s.handRelease m).pending = s.pending := by
  unfold State.handRelease; (try dsimp only); (repeat' split) <;> simp

/-- One channel changes. -/
@[simp] theorem State.changeChannel_frame (m : Marker) (f : Channel → Channel) (s : State) :
    (s.changeChannel m f).clock = s.clock ∧ (s.changeChannel m f).free = s.free
      ∧ (s.changeChannel m f).pins = s.pins ∧ (s.changeChannel m f).link = s.link
      ∧ (s.changeChannel m f).heads = s.heads ∧ (s.changeChannel m f).table = s.table
      ∧ (s.changeChannel m f).expo = s.expo ∧ (s.changeChannel m f).odo = s.odo ∧ (s.changeChannel m f).att = s.att
      ∧ (s.changeChannel m f).trk = s.trk ∧ (s.changeChannel m f).span = s.span ∧ (s.changeChannel m f).run = s.run
      ∧ (s.changeChannel m f).rep = s.rep ∧ (s.changeChannel m f).live = s.live ∧ (s.changeChannel m f).cal = s.cal
      ∧ (s.changeChannel m f).cfg = s.cfg ∧ (s.changeChannel m f).pending = s.pending :=
  ⟨rfl, rfl, rfl, rfl, rfl, rfl, rfl, rfl, rfl, rfl, rfl, rfl, rfl, rfl, rfl, rfl, rfl⟩

/-- A channel qualifies. -/
@[simp] theorem State.qualifyChannel_frame (m : Marker) (s : State) :
    (s.qualifyChannel m).clock = s.clock ∧ (s.qualifyChannel m).free = s.free ∧ (s.qualifyChannel m).pins = s.pins
      ∧ (s.qualifyChannel m).link = s.link ∧ (s.qualifyChannel m).heads = s.heads
      ∧ (s.qualifyChannel m).table = s.table ∧ (s.qualifyChannel m).expo = s.expo ∧ (s.qualifyChannel m).odo = s.odo
      ∧ (s.qualifyChannel m).att = s.att ∧ (s.qualifyChannel m).live = s.live ∧ (s.qualifyChannel m).cal = s.cal
      ∧ (s.qualifyChannel m).pending = s.pending := by
  unfold State.qualifyChannel; simp

/-- A channel asserts. -/
@[simp] theorem State.assertChannel_frame (m : Marker) (s : State) :
    (s.assertChannel m).clock = s.clock ∧ (s.assertChannel m).free = s.free ∧ (s.assertChannel m).pins = s.pins
      ∧ (s.assertChannel m).link = s.link ∧ (s.assertChannel m).heads = s.heads
      ∧ (s.assertChannel m).table = s.table ∧ (s.assertChannel m).expo = s.expo ∧ (s.assertChannel m).odo = s.odo
      ∧ (s.assertChannel m).att = s.att ∧ (s.assertChannel m).live = s.live ∧ (s.assertChannel m).cal = s.cal
      ∧ (s.assertChannel m).pending = s.pending := by
  unfold State.assertChannel; (try dsimp only); (repeat' split) <;> simp

/-- A channel drops. -/
@[simp] theorem State.dropChannel_frame (m : Marker) (s : State) :
    (s.dropChannel m).clock = s.clock ∧ (s.dropChannel m).free = s.free ∧ (s.dropChannel m).pins = s.pins
      ∧ (s.dropChannel m).link = s.link ∧ (s.dropChannel m).heads = s.heads ∧ (s.dropChannel m).table = s.table
      ∧ (s.dropChannel m).expo = s.expo ∧ (s.dropChannel m).odo = s.odo ∧ (s.dropChannel m).att = s.att
      ∧ (s.dropChannel m).live = s.live ∧ (s.dropChannel m).cal = s.cal ∧ (s.dropChannel m).pending = s.pending := by
  unfold State.dropChannel; (try dsimp only); (repeat' split) <;> simp

/-- An accepted level. -/
@[simp] theorem State.markerLevel_frame (m : Marker) (l : Bool) (s : State) :
    (s.markerLevel m l).clock = s.clock ∧ (s.markerLevel m l).free = s.free ∧ (s.markerLevel m l).pins = s.pins
      ∧ (s.markerLevel m l).link = s.link ∧ (s.markerLevel m l).heads = s.heads
      ∧ (s.markerLevel m l).table = s.table ∧ (s.markerLevel m l).expo = s.expo ∧ (s.markerLevel m l).odo = s.odo
      ∧ (s.markerLevel m l).att = s.att ∧ (s.markerLevel m l).live = s.live ∧ (s.markerLevel m l).cal = s.cal
      ∧ (s.markerLevel m l).pending = s.pending := by
  unfold State.markerLevel; (try dsimp only); (repeat' split) <;> simp

/-- A pending channel at a change of position. -/
@[simp] theorem State.checkChannel_frame (s : State) (m : Marker) :
    (s.checkChannel m).clock = s.clock ∧ (s.checkChannel m).free = s.free ∧ (s.checkChannel m).pins = s.pins
      ∧ (s.checkChannel m).link = s.link ∧ (s.checkChannel m).heads = s.heads ∧ (s.checkChannel m).table = s.table
      ∧ (s.checkChannel m).expo = s.expo ∧ (s.checkChannel m).odo = s.odo ∧ (s.checkChannel m).att = s.att
      ∧ (s.checkChannel m).live = s.live ∧ (s.checkChannel m).cal = s.cal ∧ (s.checkChannel m).pending = s.pending := by
  unfold State.checkChannel; (try dsimp only); (repeat' split) <;> simp

/-- The channels at a change of position. -/
@[simp] theorem State.checkChannels_frame (s : State) :
    (s.checkChannels).clock = s.clock ∧ (s.checkChannels).free = s.free ∧ (s.checkChannels).pins = s.pins
      ∧ (s.checkChannels).link = s.link ∧ (s.checkChannels).heads = s.heads ∧ (s.checkChannels).table = s.table
      ∧ (s.checkChannels).expo = s.expo ∧ (s.checkChannels).odo = s.odo ∧ (s.checkChannels).att = s.att
      ∧ (s.checkChannels).live = s.live ∧ (s.checkChannels).cal = s.cal ∧ (s.checkChannels).pending = s.pending := by
  unfold State.checkChannels; split <;> simp [Ix.all]

/-- One filter changes. -/
@[simp] theorem State.setFilter_frame (m : Marker) (f : Filter) (s : State) :
    (s.setFilter m f).clock = s.clock ∧ (s.setFilter m f).free = s.free ∧ (s.setFilter m f).pins = s.pins
      ∧ (s.setFilter m f).link = s.link ∧ (s.setFilter m f).heads = s.heads ∧ (s.setFilter m f).table = s.table
      ∧ (s.setFilter m f).expo = s.expo ∧ (s.setFilter m f).odo = s.odo ∧ (s.setFilter m f).att = s.att
      ∧ (s.setFilter m f).trk = s.trk ∧ (s.setFilter m f).span = s.span ∧ (s.setFilter m f).run = s.run
      ∧ (s.setFilter m f).rep = s.rep ∧ (s.setFilter m f).live = s.live ∧ (s.setFilter m f).cal = s.cal
      ∧ (s.setFilter m f).cfg = s.cfg ∧ (s.setFilter m f).pending = s.pending :=
  ⟨rfl, rfl, rfl, rfl, rfl, rfl, rfl, rfl, rfl, rfl, rfl, rfl, rfl, rfl, rfl, rfl, rfl⟩

/-- A marker input changes. -/
@[simp] theorem State.toggleMarker_frame (m : Marker) (s : State) :
    (s.toggleMarker m).clock = s.clock ∧ (s.toggleMarker m).free = s.free ∧ (s.toggleMarker m).link = s.link
      ∧ (s.toggleMarker m).heads = s.heads ∧ (s.toggleMarker m).table = s.table ∧ (s.toggleMarker m).expo = s.expo
      ∧ (s.toggleMarker m).odo = s.odo ∧ (s.toggleMarker m).mark = s.mark ∧ (s.toggleMarker m).att = s.att
      ∧ (s.toggleMarker m).trk = s.trk ∧ (s.toggleMarker m).span = s.span ∧ (s.toggleMarker m).run = s.run
      ∧ (s.toggleMarker m).rep = s.rep ∧ (s.toggleMarker m).live = s.live ∧ (s.toggleMarker m).cal = s.cal
      ∧ (s.toggleMarker m).cfg = s.cfg ∧ (s.toggleMarker m).pending = s.pending :=
  ⟨rfl, rfl, rfl, rfl, rfl, rfl, rfl, rfl, rfl, rfl, rfl, rfl, rfl, rfl, rfl, rfl, rfl⟩

/-- A filter accepts. -/
@[simp] theorem State.acceptMarker_frame (m : Marker) (l : Bool) (s : State) :
    (s.acceptMarker m l).clock = s.clock ∧ (s.acceptMarker m l).free = s.free ∧ (s.acceptMarker m l).pins = s.pins
      ∧ (s.acceptMarker m l).link = s.link ∧ (s.acceptMarker m l).heads = s.heads
      ∧ (s.acceptMarker m l).table = s.table ∧ (s.acceptMarker m l).expo = s.expo ∧ (s.acceptMarker m l).odo = s.odo
      ∧ (s.acceptMarker m l).att = s.att ∧ (s.acceptMarker m l).live = s.live ∧ (s.acceptMarker m l).cal = s.cal
      ∧ (s.acceptMarker m l).pending = s.pending := by
  unfold State.acceptMarker; (try dsimp only); (repeat' split) <;> simp

/-- A marker input's change taken. -/
@[simp] theorem State.markerChanged_frame (m : Marker) (l : Bool) (s : State) :
    (s.markerChanged m l).clock = s.clock ∧ (s.markerChanged m l).free = s.free
      ∧ (s.markerChanged m l).pins = s.pins ∧ (s.markerChanged m l).link = s.link
      ∧ (s.markerChanged m l).heads = s.heads ∧ (s.markerChanged m l).table = s.table
      ∧ (s.markerChanged m l).expo = s.expo ∧ (s.markerChanged m l).odo = s.odo ∧ (s.markerChanged m l).att = s.att
      ∧ (s.markerChanged m l).live = s.live ∧ (s.markerChanged m l).cal = s.cal
      ∧ (s.markerChanged m l).pending = s.pending := by
  unfold State.markerChanged; (try dsimp only); (repeat' split) <;> simp

/-! ### The Odometer Interface (R41 to R48) -/

/-- Furthest position, reverse and resumption. -/
@[simp] theorem State.checkTravel_frame (s : State) :
    (s.checkTravel).clock = s.clock ∧ (s.checkTravel).free = s.free ∧ (s.checkTravel).pins = s.pins
      ∧ (s.checkTravel).link = s.link ∧ (s.checkTravel).heads = s.heads ∧ (s.checkTravel).table = s.table
      ∧ (s.checkTravel).expo = s.expo ∧ (s.checkTravel).mark = s.mark ∧ (s.checkTravel).att = s.att
      ∧ (s.checkTravel).cal = s.cal ∧ (s.checkTravel).cfg = s.cfg ∧ (s.checkTravel).pending = s.pending := by
  unfold State.checkTravel; (try dsimp only); (repeat' split) <;> simp

/-- A change of position. -/
@[simp] theorem State.positionChanged_frame (old : Int) (s : State) :
    (s.positionChanged old).clock = s.clock ∧ (s.positionChanged old).free = s.free
      ∧ (s.positionChanged old).pins = s.pins ∧ (s.positionChanged old).link = s.link
      ∧ (s.positionChanged old).att = s.att ∧ (s.positionChanged old).cal = s.cal
      ∧ (s.positionChanged old).pending = s.pending := by
  unfold State.positionChanged; simp

/-- An encoder line changes. -/
@[simp] theorem State.toggleEncoder_frame (l : EncoderLine) (s : State) :
    (s.toggleEncoder l).clock = s.clock ∧ (s.toggleEncoder l).free = s.free ∧ (s.toggleEncoder l).link = s.link
      ∧ (s.toggleEncoder l).heads = s.heads ∧ (s.toggleEncoder l).table = s.table
      ∧ (s.toggleEncoder l).expo = s.expo ∧ (s.toggleEncoder l).odo = s.odo ∧ (s.toggleEncoder l).mark = s.mark
      ∧ (s.toggleEncoder l).att = s.att ∧ (s.toggleEncoder l).trk = s.trk ∧ (s.toggleEncoder l).span = s.span
      ∧ (s.toggleEncoder l).run = s.run ∧ (s.toggleEncoder l).rep = s.rep ∧ (s.toggleEncoder l).live = s.live
      ∧ (s.toggleEncoder l).cal = s.cal ∧ (s.toggleEncoder l).cfg = s.cfg ∧ (s.toggleEncoder l).pending = s.pending := by
  unfold State.toggleEncoder; (try dsimp only); (repeat' split) <;> simp

/-- A valid edge. -/
@[simp] theorem State.encoderEdge_frame (l : EncoderLine) (s : State) :
    (s.encoderEdge l).clock = s.clock ∧ (s.encoderEdge l).free = s.free ∧ (s.encoderEdge l).link = s.link
      ∧ (s.encoderEdge l).att = s.att ∧ (s.encoderEdge l).cal = s.cal ∧ (s.encoderEdge l).pending = s.pending := by
  unfold State.encoderEdge; (try dsimp only); (repeat' split) <;> simp

/-- A phase error. -/
@[simp] theorem State.phaseError_frame (s : State) :
    (s.phaseError).clock = s.clock ∧ (s.phaseError).free = s.free ∧ (s.phaseError).link = s.link
      ∧ (s.phaseError).heads = s.heads ∧ (s.phaseError).mark = s.mark ∧ (s.phaseError).att = s.att
      ∧ (s.phaseError).cal = s.cal ∧ (s.phaseError).cfg = s.cfg ∧ (s.phaseError).pending = s.pending := by
  unfold State.phaseError; (try dsimp only); (repeat' split) <;> simp

/-- Live slot 0. -/
@[simp] theorem State.touchLiveTravel_frame (s : State) :
    (s.touchLiveTravel).clock = s.clock ∧ (s.touchLiveTravel).free = s.free ∧ (s.touchLiveTravel).pins = s.pins
      ∧ (s.touchLiveTravel).link = s.link ∧ (s.touchLiveTravel).heads = s.heads
      ∧ (s.touchLiveTravel).table = s.table ∧ (s.touchLiveTravel).expo = s.expo ∧ (s.touchLiveTravel).odo = s.odo
      ∧ (s.touchLiveTravel).mark = s.mark ∧ (s.touchLiveTravel).att = s.att ∧ (s.touchLiveTravel).trk = s.trk
      ∧ (s.touchLiveTravel).span = s.span ∧ (s.touchLiveTravel).run = s.run ∧ (s.touchLiveTravel).rep = s.rep
      ∧ (s.touchLiveTravel).cal = s.cal ∧ (s.touchLiveTravel).cfg = s.cfg ∧ (s.touchLiveTravel).pending = s.pending :=
  ⟨rfl, rfl, rfl, rfl, rfl, rfl, rfl, rfl, rfl, rfl, rfl, rfl, rfl, rfl, rfl, rfl, rfl⟩

/-! ### The Attitude Converter (R59 to R69) -/

/-- Live slot 1. -/
@[simp] theorem State.touchLiveAttitude_frame (s : State) :
    (s.touchLiveAttitude).clock = s.clock ∧ (s.touchLiveAttitude).free = s.free
      ∧ (s.touchLiveAttitude).pins = s.pins ∧ (s.touchLiveAttitude).link = s.link
      ∧ (s.touchLiveAttitude).heads = s.heads ∧ (s.touchLiveAttitude).table = s.table
      ∧ (s.touchLiveAttitude).expo = s.expo ∧ (s.touchLiveAttitude).odo = s.odo
      ∧ (s.touchLiveAttitude).mark = s.mark ∧ (s.touchLiveAttitude).att = s.att ∧ (s.touchLiveAttitude).trk = s.trk
      ∧ (s.touchLiveAttitude).span = s.span ∧ (s.touchLiveAttitude).run = s.run ∧ (s.touchLiveAttitude).rep = s.rep
      ∧ (s.touchLiveAttitude).cal = s.cal ∧ (s.touchLiveAttitude).cfg = s.cfg
      ∧ (s.touchLiveAttitude).pending = s.pending :=
  ⟨rfl, rfl, rfl, rfl, rfl, rfl, rfl, rfl, rfl, rfl, rfl, rfl, rfl, rfl, rfl, rfl, rfl⟩

/-- Live slot 2. -/
@[simp] theorem State.touchLiveTemp_frame (s : State) :
    (s.touchLiveTemp).clock = s.clock ∧ (s.touchLiveTemp).free = s.free ∧ (s.touchLiveTemp).pins = s.pins
      ∧ (s.touchLiveTemp).link = s.link ∧ (s.touchLiveTemp).heads = s.heads ∧ (s.touchLiveTemp).table = s.table
      ∧ (s.touchLiveTemp).expo = s.expo ∧ (s.touchLiveTemp).odo = s.odo ∧ (s.touchLiveTemp).mark = s.mark
      ∧ (s.touchLiveTemp).att = s.att ∧ (s.touchLiveTemp).trk = s.trk ∧ (s.touchLiveTemp).span = s.span
      ∧ (s.touchLiveTemp).run = s.run ∧ (s.touchLiveTemp).rep = s.rep ∧ (s.touchLiveTemp).cal = s.cal
      ∧ (s.touchLiveTemp).cfg = s.cfg ∧ (s.touchLiveTemp).pending = s.pending :=
  ⟨rfl, rfl, rfl, rfl, rfl, rfl, rfl, rfl, rfl, rfl, rfl, rfl, rfl, rfl, rfl, rfl, rfl⟩

/-- An attitude reading. -/
@[simp] theorem State.attitudeReading_frame (c : AdcChannel) (f r : Int) (s : State) :
    (s.attitudeReading c f r).clock = s.clock ∧ (s.attitudeReading c f r).free = s.free
      ∧ (s.attitudeReading c f r).pins = s.pins ∧ (s.attitudeReading c f r).link = s.link
      ∧ (s.attitudeReading c f r).heads = s.heads ∧ (s.attitudeReading c f r).table = s.table
      ∧ (s.attitudeReading c f r).expo = s.expo ∧ (s.attitudeReading c f r).odo = s.odo
      ∧ (s.attitudeReading c f r).mark = s.mark ∧ (s.attitudeReading c f r).trk = s.trk
      ∧ (s.attitudeReading c f r).span = s.span ∧ (s.attitudeReading c f r).run = s.run
      ∧ (s.attitudeReading c f r).cal = s.cal ∧ (s.attitudeReading c f r).cfg = s.cfg
      ∧ (s.attitudeReading c f r).pending = s.pending := by
  unfold State.attitudeReading; (try dsimp only); (repeat' split) <;> simp

/-- A good TEMP reading. -/
@[simp] theorem State.evaluateTemp_frame (r : Int) (s : State) :
    (s.evaluateTemp r).clock = s.clock ∧ (s.evaluateTemp r).free = s.free ∧ (s.evaluateTemp r).pins = s.pins
      ∧ (s.evaluateTemp r).link = s.link ∧ (s.evaluateTemp r).heads = s.heads ∧ (s.evaluateTemp r).table = s.table
      ∧ (s.evaluateTemp r).expo = s.expo ∧ (s.evaluateTemp r).odo = s.odo ∧ (s.evaluateTemp r).mark = s.mark
      ∧ (s.evaluateTemp r).trk = s.trk ∧ (s.evaluateTemp r).span = s.span ∧ (s.evaluateTemp r).run = s.run
      ∧ (s.evaluateTemp r).live = s.live ∧ (s.evaluateTemp r).cal = s.cal ∧ (s.evaluateTemp r).cfg = s.cfg
      ∧ (s.evaluateTemp r).pending = s.pending := by
  unfold State.evaluateTemp; (try dsimp only); (repeat' split) <;> simp

/-- A discarded TEMP reading. -/
@[simp] theorem State.discardTemp_frame (s : State) :
    (s.discardTemp).clock = s.clock ∧ (s.discardTemp).free = s.free ∧ (s.discardTemp).pins = s.pins
      ∧ (s.discardTemp).link = s.link ∧ (s.discardTemp).heads = s.heads ∧ (s.discardTemp).table = s.table
      ∧ (s.discardTemp).expo = s.expo ∧ (s.discardTemp).odo = s.odo ∧ (s.discardTemp).mark = s.mark
      ∧ (s.discardTemp).trk = s.trk ∧ (s.discardTemp).span = s.span ∧ (s.discardTemp).run = s.run
      ∧ (s.discardTemp).live = s.live ∧ (s.discardTemp).cal = s.cal ∧ (s.discardTemp).cfg = s.cfg
      ∧ (s.discardTemp).pending = s.pending := by
  unfold State.discardTemp; simp

/-- CAL_TEMPERATURE ends. -/
@[simp] theorem State.endCalTemperature_frame (f : Frame) (s : State) :
    (s.endCalTemperature f).clock = s.clock ∧ (s.endCalTemperature f).free = s.free
      ∧ (s.endCalTemperature f).pins = s.pins ∧ (s.endCalTemperature f).heads = s.heads
      ∧ (s.endCalTemperature f).table = s.table ∧ (s.endCalTemperature f).expo = s.expo
      ∧ (s.endCalTemperature f).odo = s.odo ∧ (s.endCalTemperature f).mark = s.mark
      ∧ (s.endCalTemperature f).trk = s.trk ∧ (s.endCalTemperature f).span = s.span
      ∧ (s.endCalTemperature f).run = s.run ∧ (s.endCalTemperature f).rep = s.rep
      ∧ (s.endCalTemperature f).live = s.live ∧ (s.endCalTemperature f).cal = s.cal
      ∧ (s.endCalTemperature f).cfg = s.cfg ∧ (s.endCalTemperature f).pending = s.pending :=
  ⟨rfl, rfl, rfl, rfl, rfl, rfl, rfl, rfl, rfl, rfl, rfl, rfl, rfl, rfl, rfl, rfl⟩

/-- A calibration point. -/
@[simp] theorem State.setTemperaturePoint_frame (r p : Int) (s : State) :
    (s.setTemperaturePoint r p).clock = s.clock ∧ (s.setTemperaturePoint r p).free = s.free
      ∧ (s.setTemperaturePoint r p).pins = s.pins ∧ (s.setTemperaturePoint r p).link = s.link
      ∧ (s.setTemperaturePoint r p).heads = s.heads ∧ (s.setTemperaturePoint r p).table = s.table
      ∧ (s.setTemperaturePoint r p).expo = s.expo ∧ (s.setTemperaturePoint r p).odo = s.odo
      ∧ (s.setTemperaturePoint r p).mark = s.mark ∧ (s.setTemperaturePoint r p).att = s.att
      ∧ (s.setTemperaturePoint r p).trk = s.trk ∧ (s.setTemperaturePoint r p).span = s.span
      ∧ (s.setTemperaturePoint r p).run = s.run ∧ (s.setTemperaturePoint r p).rep = s.rep
      ∧ (s.setTemperaturePoint r p).live = s.live ∧ (s.setTemperaturePoint r p).cfg = s.cfg
      ∧ (s.setTemperaturePoint r p).pending = s.pending :=
  ⟨rfl, rfl, rfl, rfl, rfl, rfl, rfl, rfl, rfl, rfl, rfl, rfl, rfl, rfl, rfl, rfl, rfl⟩

/-- A TEMP reading. -/
@[simp] theorem State.tempReading_frame (f r : Int) (s : State) :
    (s.tempReading f r).clock = s.clock ∧ (s.tempReading f r).free = s.free ∧ (s.tempReading f r).pins = s.pins
      ∧ (s.tempReading f r).heads = s.heads ∧ (s.tempReading f r).table = s.table
      ∧ (s.tempReading f r).expo = s.expo ∧ (s.tempReading f r).odo = s.odo ∧ (s.tempReading f r).mark = s.mark
      ∧ (s.tempReading f r).trk = s.trk ∧ (s.tempReading f r).span = s.span ∧ (s.tempReading f r).run = s.run
      ∧ (s.tempReading f r).cfg = s.cfg ∧ (s.tempReading f r).pending = s.pending := by
  unfold State.tempReading; (try dsimp only); (repeat' split) <;> simp

/-- The next reading. -/
@[simp] theorem State.beginReading_frame (s : State) :
    (s.beginReading).clock = s.clock ∧ (s.beginReading).free = s.free ∧ (s.beginReading).pins = s.pins
      ∧ (s.beginReading).link = s.link ∧ (s.beginReading).heads = s.heads ∧ (s.beginReading).table = s.table
      ∧ (s.beginReading).expo = s.expo ∧ (s.beginReading).odo = s.odo ∧ (s.beginReading).mark = s.mark
      ∧ (s.beginReading).trk = s.trk ∧ (s.beginReading).span = s.span ∧ (s.beginReading).run = s.run
      ∧ (s.beginReading).rep = s.rep ∧ (s.beginReading).live = s.live ∧ (s.beginReading).cal = s.cal
      ∧ (s.beginReading).cfg = s.cfg ∧ (s.beginReading).pending = s.pending :=
  ⟨rfl, rfl, rfl, rfl, rfl, rfl, rfl, rfl, rfl, rfl, rfl, rfl, rfl, rfl, rfl, rfl, rfl⟩

/-- The reversed conversion. -/
@[simp] theorem State.beginReversed_frame (c : Int) (s : State) :
    (s.beginReversed c).clock = s.clock ∧ (s.beginReversed c).free = s.free ∧ (s.beginReversed c).pins = s.pins
      ∧ (s.beginReversed c).link = s.link ∧ (s.beginReversed c).heads = s.heads
      ∧ (s.beginReversed c).table = s.table ∧ (s.beginReversed c).expo = s.expo ∧ (s.beginReversed c).odo = s.odo
      ∧ (s.beginReversed c).mark = s.mark ∧ (s.beginReversed c).trk = s.trk ∧ (s.beginReversed c).span = s.span
      ∧ (s.beginReversed c).run = s.run ∧ (s.beginReversed c).rep = s.rep ∧ (s.beginReversed c).live = s.live
      ∧ (s.beginReversed c).cal = s.cal ∧ (s.beginReversed c).cfg = s.cfg ∧ (s.beginReversed c).pending = s.pending :=
  ⟨rfl, rfl, rfl, rfl, rfl, rfl, rfl, rfl, rfl, rfl, rfl, rfl, rfl, rfl, rfl, rfl, rfl⟩

/-- A reading completes. -/
@[simp] theorem State.completeReading_frame (f r : Int) (s : State) :
    (s.completeReading f r).clock = s.clock ∧ (s.completeReading f r).free = s.free
      ∧ (s.completeReading f r).pins = s.pins ∧ (s.completeReading f r).heads = s.heads
      ∧ (s.completeReading f r).table = s.table ∧ (s.completeReading f r).expo = s.expo
      ∧ (s.completeReading f r).odo = s.odo ∧ (s.completeReading f r).mark = s.mark
      ∧ (s.completeReading f r).trk = s.trk ∧ (s.completeReading f r).span = s.span
      ∧ (s.completeReading f r).run = s.run ∧ (s.completeReading f r).cfg = s.cfg
      ∧ (s.completeReading f r).pending = s.pending := by
  unfold State.completeReading; (try dsimp only); (repeat' split) <;> simp

/-! ### Calibration, requests and the host link -/

/-- CAL_INVALID where it is due. -/
@[simp] theorem raiseCalInvalid_frame (b : List Byte) (s : State) :
    (raiseCalInvalid b s).clock = s.clock ∧ (raiseCalInvalid b s).free = s.free
      ∧ (raiseCalInvalid b s).pins = s.pins ∧ (raiseCalInvalid b s).link = s.link
      ∧ (raiseCalInvalid b s).heads = s.heads ∧ (raiseCalInvalid b s).table = s.table
      ∧ (raiseCalInvalid b s).expo = s.expo ∧ (raiseCalInvalid b s).odo = s.odo
      ∧ (raiseCalInvalid b s).mark = s.mark ∧ (raiseCalInvalid b s).att = s.att ∧ (raiseCalInvalid b s).trk = s.trk
      ∧ (raiseCalInvalid b s).span = s.span ∧ (raiseCalInvalid b s).run = s.run
      ∧ (raiseCalInvalid b s).live = s.live ∧ (raiseCalInvalid b s).cal = s.cal ∧ (raiseCalInvalid b s).cfg = s.cfg
      ∧ (raiseCalInvalid b s).pending = s.pending := by
  unfold raiseCalInvalid; (try dsimp only); (repeat' split) <;> simp

/-- The load ends. -/
@[simp] theorem State.loadCalibration_frame (s : State) :
    (s.loadCalibration).clock = s.clock ∧ (s.loadCalibration).free = s.free ∧ (s.loadCalibration).pins = s.pins
      ∧ (s.loadCalibration).heads = s.heads ∧ (s.loadCalibration).table = s.table
      ∧ (s.loadCalibration).expo = s.expo ∧ (s.loadCalibration).odo = s.odo ∧ (s.loadCalibration).mark = s.mark
      ∧ (s.loadCalibration).att = s.att ∧ (s.loadCalibration).trk = s.trk ∧ (s.loadCalibration).span = s.span
      ∧ (s.loadCalibration).run = s.run ∧ (s.loadCalibration).live = s.live ∧ (s.loadCalibration).cfg = s.cfg
      ∧ (s.loadCalibration).pending = s.pending := by
  unfold State.loadCalibration; simp

/-- A store ends. -/
@[simp] theorem State.endStore_frame (b : List Byte) (s : State) :
    (s.endStore b).clock = s.clock ∧ (s.endStore b).free = s.free ∧ (s.endStore b).pins = s.pins
      ∧ (s.endStore b).link = s.link ∧ (s.endStore b).heads = s.heads ∧ (s.endStore b).table = s.table
      ∧ (s.endStore b).expo = s.expo ∧ (s.endStore b).odo = s.odo ∧ (s.endStore b).mark = s.mark
      ∧ (s.endStore b).att = s.att ∧ (s.endStore b).trk = s.trk ∧ (s.endStore b).span = s.span
      ∧ (s.endStore b).run = s.run ∧ (s.endStore b).live = s.live ∧ (s.endStore b).cfg = s.cfg
      ∧ (s.endStore b).pending = s.pending := by
  unfold State.endStore; (try dsimp only); (repeat' split) <;> simp

/-- Span records fetched. -/
@[simp] theorem State.fetchSpans_frame (n : Nat) (s : State) :
    (s.fetchSpans n).clock = s.clock ∧ (s.fetchSpans n).free = s.free ∧ (s.fetchSpans n).pins = s.pins
      ∧ (s.fetchSpans n).heads = s.heads ∧ (s.fetchSpans n).table = s.table ∧ (s.fetchSpans n).expo = s.expo
      ∧ (s.fetchSpans n).odo = s.odo ∧ (s.fetchSpans n).mark = s.mark ∧ (s.fetchSpans n).att = s.att
      ∧ (s.fetchSpans n).trk = s.trk ∧ (s.fetchSpans n).span = s.span ∧ (s.fetchSpans n).run = s.run
      ∧ (s.fetchSpans n).live = s.live ∧ (s.fetchSpans n).cal = s.cal ∧ (s.fetchSpans n).cfg = s.cfg
      ∧ (s.fetchSpans n).pending = s.pending :=
  ⟨rfl, rfl, rfl, rfl, rfl, rfl, rfl, rfl, rfl, rfl, rfl, rfl, rfl, rfl, rfl, rfl⟩

/-- Events fetched. -/
@[simp] theorem State.fetchEvents_frame (n : Nat) (s : State) :
    (s.fetchEvents n).clock = s.clock ∧ (s.fetchEvents n).free = s.free ∧ (s.fetchEvents n).pins = s.pins
      ∧ (s.fetchEvents n).heads = s.heads ∧ (s.fetchEvents n).table = s.table ∧ (s.fetchEvents n).expo = s.expo
      ∧ (s.fetchEvents n).odo = s.odo ∧ (s.fetchEvents n).mark = s.mark ∧ (s.fetchEvents n).att = s.att
      ∧ (s.fetchEvents n).trk = s.trk ∧ (s.fetchEvents n).span = s.span ∧ (s.fetchEvents n).run = s.run
      ∧ (s.fetchEvents n).live = s.live ∧ (s.fetchEvents n).cal = s.cal ∧ (s.fetchEvents n).cfg = s.cfg
      ∧ (s.fetchEvents n).pending = s.pending :=
  ⟨rfl, rfl, rfl, rfl, rfl, rfl, rfl, rfl, rfl, rfl, rfl, rfl, rfl, rfl, rfl, rfl⟩

/-- Causes acknowledged. -/
@[simp] theorem State.acknowledge_frame (c : Causes) (s : State) :
    (s.acknowledge c).clock = s.clock ∧ (s.acknowledge c).free = s.free ∧ (s.acknowledge c).pins = s.pins
      ∧ (s.acknowledge c).heads = s.heads ∧ (s.acknowledge c).table = s.table ∧ (s.acknowledge c).expo = s.expo
      ∧ (s.acknowledge c).odo = s.odo ∧ (s.acknowledge c).mark = s.mark ∧ (s.acknowledge c).att = s.att
      ∧ (s.acknowledge c).trk = s.trk ∧ (s.acknowledge c).span = s.span ∧ (s.acknowledge c).run = s.run
      ∧ (s.acknowledge c).live = s.live ∧ (s.acknowledge c).cal = s.cal ∧ (s.acknowledge c).cfg = s.cfg
      ∧ (s.acknowledge c).pending = s.pending :=
  ⟨rfl, rfl, rfl, rfl, rfl, rfl, rfl, rfl, rfl, rfl, rfl, rfl, rfl, rfl, rfl, rfl⟩

/-- A REPORTING set. -/
@[simp] theorem State.setReporting_frame (c : Checked ReportingSet) (s : State) :
    (s.setReporting c).clock = s.clock ∧ (s.setReporting c).free = s.free ∧ (s.setReporting c).pins = s.pins
      ∧ (s.setReporting c).heads = s.heads ∧ (s.setReporting c).table = s.table ∧ (s.setReporting c).expo = s.expo
      ∧ (s.setReporting c).odo = s.odo ∧ (s.setReporting c).mark = s.mark ∧ (s.setReporting c).att = s.att
      ∧ (s.setReporting c).trk = s.trk ∧ (s.setReporting c).span = s.span ∧ (s.setReporting c).run = s.run
      ∧ (s.setReporting c).rep = s.rep ∧ (s.setReporting c).live = s.live ∧ (s.setReporting c).cal = s.cal
      ∧ (s.setReporting c).pending = s.pending := by
  unfold State.setReporting; (try dsimp only); (repeat' split) <;> simp

/-- A frame has left. -/
@[simp] theorem State.endFrame_frame (f : Frame) (s : State) :
    (s.endFrame f).clock = s.clock ∧ (s.endFrame f).free = s.free ∧ (s.endFrame f).pins = s.pins
      ∧ (s.endFrame f).heads = s.heads ∧ (s.endFrame f).table = s.table ∧ (s.endFrame f).expo = s.expo
      ∧ (s.endFrame f).odo = s.odo ∧ (s.endFrame f).mark = s.mark ∧ (s.endFrame f).att = s.att
      ∧ (s.endFrame f).trk = s.trk ∧ (s.endFrame f).span = s.span ∧ (s.endFrame f).run = s.run
      ∧ (s.endFrame f).live = s.live ∧ (s.endFrame f).cal = s.cal ∧ (s.endFrame f).cfg = s.cfg
      ∧ (s.endFrame f).pending = s.pending := by
  unfold State.endFrame; (try dsimp only); (repeat' split) <;> simp

/-- A host frame abandoned. -/
@[simp] theorem State.abandonHostFrame_frame (r : LinkReason) (s : State) :
    (s.abandonHostFrame r).clock = s.clock ∧ (s.abandonHostFrame r).free = s.free
      ∧ (s.abandonHostFrame r).pins = s.pins ∧ (s.abandonHostFrame r).heads = s.heads
      ∧ (s.abandonHostFrame r).table = s.table ∧ (s.abandonHostFrame r).expo = s.expo
      ∧ (s.abandonHostFrame r).odo = s.odo ∧ (s.abandonHostFrame r).mark = s.mark
      ∧ (s.abandonHostFrame r).att = s.att ∧ (s.abandonHostFrame r).trk = s.trk
      ∧ (s.abandonHostFrame r).span = s.span ∧ (s.abandonHostFrame r).run = s.run
      ∧ (s.abandonHostFrame r).live = s.live ∧ (s.abandonHostFrame r).cal = s.cal
      ∧ (s.abandonHostFrame r).cfg = s.cfg ∧ (s.abandonHostFrame r).pending = s.pending := by
  unfold State.abandonHostFrame; (try dsimp only); (repeat' split) <;> simp

/-- A SET_GROUP of no group. -/
@[simp] theorem State.unknownGroup_frame (p : List Byte) (s : State) :
    (s.unknownGroup p).clock = s.clock ∧ (s.unknownGroup p).free = s.free ∧ (s.unknownGroup p).pins = s.pins
      ∧ (s.unknownGroup p).heads = s.heads ∧ (s.unknownGroup p).table = s.table ∧ (s.unknownGroup p).expo = s.expo
      ∧ (s.unknownGroup p).odo = s.odo ∧ (s.unknownGroup p).mark = s.mark ∧ (s.unknownGroup p).att = s.att
      ∧ (s.unknownGroup p).trk = s.trk ∧ (s.unknownGroup p).span = s.span ∧ (s.unknownGroup p).run = s.run
      ∧ (s.unknownGroup p).rep = s.rep ∧ (s.unknownGroup p).live = s.live ∧ (s.unknownGroup p).cal = s.cal
      ∧ (s.unknownGroup p).cfg = s.cfg ∧ (s.unknownGroup p).pending = s.pending := by
  unfold State.unknownGroup; (repeat' split) <;> simp

end Sys2Proof.Machine
end

