-- ==== Sys2Proof/Laws/Report.lean ====
section
/-! SUPPORT. What the shared operations do to the fault records and the queues, and how a request is handled. -/

namespace Sys2Proof.Machine

/-! ### The size of the queues and the fault records (R148, R151, R178) -/

/-- The bounds of the queues and of the fault records, taken together. -/
structure Report.Fine (r : Report) : Prop where
  spans : r.spans.items.length ≤ 32
  events : r.events.items.length ≤ 64
  flight : r.spans.inFlight = true → r.spans.items ≠ []
  records : r.faults.length = 23
  counts : ∀ x ∈ r.faults, x.count ≤ 65535

theorem mem_modify {α : Type} {f : α → α} {x : α} : ∀ {l : List α} {n : Nat}, x ∈ l.modify n f → x ∈ l ∨ ∃ y ∈ l, x = f y
  | [], _, h => by simp at h
  | a :: l, 0, h => by
    simp only [List.modify_zero_cons, List.mem_cons] at h
    rcases h with h | h
    · exact .inr ⟨a, by simp, h⟩
    · exact .inl (by simp [h])
  | a :: l, n + 1, h => by
    simp only [List.modify_succ_cons, List.mem_cons] at h
    rcases h with h | h
    · exact .inl (by simp [h])
    · rcases mem_modify h with h | ⟨y, hy, h⟩
      · exact .inl (by simp [h])
      · exact .inr ⟨y, by simp [hy], h⟩

theorem Report.Fine.count {r : Report} (h : r.Fine) (p : Int) (c : FaultCode) (v : FaultValue) : (r.count p c v).Fine where
  spans := h.spans
  events := h.events
  flight := h.flight
  records := by simp [Report.count, h.records]
  counts := fun x hx => by
    rcases mem_modify hx with hx | ⟨y, _, rfl⟩
    · exact h.counts x hx
    · simp only [FaultRecord.take, satAdd]; omega

theorem Report.Fine.causes {r : Report} (h : r.Fine) (a b c : Bool) (d : Option Nat) (e : Bool) :
    Report.Fine { r with lossCause := a, faultCause := b, runCause := c, pulseDue := d, attn := e } :=
  ⟨h.spans, h.events, h.flight, h.records, h.counts⟩

theorem Report.Fine.produce {r : Report} (h : r.Fine) (p : Int) (t : Word32) (a : Int) (b : EventBody) :
    (r.produce p t a b).Fine := by
  unfold Report.produce
  dsimp only
  split
  · next hl => exact ⟨h.spans, by simp [eventCapacity] at hl ⊢; omega, h.flight, h.records, h.counts⟩
  · refine Report.Fine.count ?_ _ _ _
    exact ⟨h.spans, h.events, h.flight, h.records, h.counts⟩

theorem Report.Fine.storeSpan {r : Report} (h : r.Fine) (p : Int) (x : SpanRec) : (r.storeSpan p x).Fine := by
  unfold Report.storeSpan
  dsimp only
  split
  · next hl => exact ⟨by simp [spanCapacity] at hl ⊢; omega, h.events, by simp, h.records, h.counts⟩
  · refine Report.Fine.count ?_ _ _ _
    exact ⟨h.spans, h.events, h.flight, h.records, h.counts⟩

/-- A change of the records that raises no counter above its end keeps the bounds. -/
theorem Report.Fine.records_changed {r : Report} (h : r.Fine) {fs : List FaultRecord} (hl : fs.length = 23)
    (hc : ∀ x ∈ fs, x.count ≤ 65535) : Report.Fine { r with faults := fs } :=
  ⟨h.spans, h.events, h.flight, hl, hc⟩

theorem Report.Fine.map {r : Report} (h : r.Fine) {f : FaultRecord → FaultRecord}
    (hf : ∀ x, x.count ≤ 65535 → (f x).count ≤ 65535) : Report.Fine { r with faults := r.faults.map f } :=
  h.records_changed (by simp [h.records]) fun x hx => by
    obtain ⟨y, hy, rfl⟩ := List.mem_map.1 hx
    exact hf y (h.counts y hy)

theorem Report.Fine.degrade {r : Report} (h : r.Fine) (p : Int) (t : Word32) (o : Bool) (c : FaultCode) (v : FaultValue) :
    (r.degrade p t o c v).Fine := by
  have hc : Report.Fine { r.count p c v with faultCause := true } :=
    ⟨h.spans, h.events, h.flight, (h.count p c v).records, (h.count p c v).counts⟩
  unfold Report.degrade
  dsimp only
  split
  · exact hc
  · refine Report.Fine.produce (hc.records_changed ?_ ?_) _ _ _ _
    · simpa using hc.records
    · intro x hx
      rcases mem_modify hx with hx | ⟨y, hy, rfl⟩
      · exact hc.counts x hx
      · exact hc.counts y hy

theorem Report.Fine.halt {r : Report} (h : r.Fine) (p : Int) (t : Word32) (c : FaultCode) (v : FaultValue) :
    (r.halt p t c v).Fine :=
  Report.Fine.produce (r := { r.count p c v with faultCause := true })
    ⟨h.spans, h.events, h.flight, (h.count p c v).records, (h.count p c v).counts⟩ _ _ _ _

theorem Report.Fine.raise {s : State} (h : s.rep.Fine) (c : FaultCode) (v : FaultValue) : (s.raise c v).rep.Fine := by
  unfold State.raise
  split
  · exact h.count _ _ _
  · exact h.degrade _ _ _ _ _
  · exact h.count _ _ _

theorem Report.Fine.emitAt {s : State} (h : s.rep.Fine) (p : Int) (b : EventBody) : (s.emitAt p b).rep.Fine :=
  h.produce _ _ _ _

theorem Report.Fine.emitEach (es : List PlacedEvent) :
    ∀ {s : State}, s.rep.Fine → (State.emitEach es s).rep.Fine := by
  induction es with
  | nil => intro s h; exact h
  | cons e es ih => intro s h; exact ih (h.emitAt e.position e.body)

theorem Report.Fine.emitAllAt (p : Int) (bs : List EventBody) {s : State} (h : s.rep.Fine) :
    (State.emitAllAt p bs s).rep.Fine :=
  Report.Fine.emitEach _ h

/-! ### Taking items from a queue (R150, R153) -/

/-- What is taken and what is left are the queue; at most `n` items are taken, and they fit. -/
theorem takeFitting_spec {α : Type} (size : α → Nat) : ∀ (n room : Nat) (xs : List α),
    (takeFitting size n room xs).1 ++ (takeFitting size n room xs).2 = xs
      ∧ (takeFitting size n room xs).1.length ≤ n
      ∧ ((takeFitting size n room xs).1.map size).sum ≤ room
  | 0, room, xs => by simp [takeFitting]
  | n + 1, room, [] => by simp [takeFitting]
  | n + 1, room, x :: xs => by
    unfold takeFitting
    split
    · next hx =>
      obtain ⟨h1, h2, h3⟩ := takeFitting_spec size n (room - size x) xs
      refine ⟨by simp [h1], by simpa using h2, ?_⟩
      simp only [List.map_cons, List.sum_cons]
      omega
    · simp

/-- What is left is no longer than the queue. -/
theorem takeFitting_rest_length {α : Type} (size : α → Nat) (n room : Nat) (xs : List α) :
    (takeFitting size n room xs).2.length ≤ xs.length := by
  have h := congrArg List.length (takeFitting_spec size n room xs).1
  rw [List.length_append] at h
  omega

/-! ### How a request is handled (R163, R164) -/

/-- A whole host frame ends in one of four ways. -/
theorem State.wholeFrame_cases {P : State → Prop} {k : Byte} {act : State → State} {s : State}
    (starting : P s) (discarded : P s.hostHunt) (overrun : P (s.hostHunt.overrun k))
    (taken : s.link.handling = .openForRequests → s.link.slot = none → P (act s.hostHunt)) : P (s.wholeFrame k act) := by
  unfold State.wholeFrame
  split
  · exact starting
  · exact discarded
  · exact overrun
  · exact overrun
  · next hh =>
    split
    · exact overrun
    · next hs => exact taken hh (by simpa using hs)

/-- A request ends in one of six ways; `act` is reached in OPEN alone, with the slot empty, the length right and no store
in progress. -/
theorem State.request_cases {P : State → Prop} {k : Byte} {ok : Bool} {act : State → State} {s : State}
    (starting : P s) (discarded : P s.hostHunt) (overrun : P (s.hostHunt.overrun k))
    (badLength : P (s.hostHunt.refuse k .badLength)) (busy : P (s.hostHunt.refuse k .busy))
    (taken : s.takesRequests → ok = true → P (act s.hostHunt)) : P (s.request k ok act) := by
  refine State.wholeFrame_cases starting discarded overrun fun hh hs => ?_
  split
  · exact badLength
  · next ho =>
    split
    · exact busy
    · next hb => exact taken ⟨hh, hs, by simpa using hb⟩ (by simpa using ho)

end Sys2Proof.Machine
end

