-- ==== Sys2Proof/Laws/Bounds.lean ====
section
/-! SUPPORT. Every operation on the state keeps the bounds of the queues and of the fault records. -/

set_option linter.unusedSimpArgs false

namespace Sys2Proof.Machine

@[simp] theorem Report.Fine.emit_keeps {s : State} (hr : s.rep.Fine) (b : EventBody) : (s.emit b).rep.Fine := hr.emitAt _ _

@[simp] theorem Report.Fine.emitAt_keeps {s : State} (hr : s.rep.Fine) (p : Int) (b : EventBody) :
    (s.emitAt p b).rep.Fine := hr.emitAt _ _

@[simp] theorem Report.Fine.storeSpan_keeps {s : State} (hr : s.rep.Fine) (r : SpanRec) : (s.storeSpan r).rep.Fine :=
  hr.storeSpan _ _

@[simp] theorem Report.Fine.raise_keeps {s : State} (hr : s.rep.Fine) (c : FaultCode) (v : FaultValue) :
    (s.raise c v).rep.Fine :=
  hr.raise c v

@[simp] theorem Report.Fine.raiseTimes_keeps {s : State} (hr : s.rep.Fine) (c : FaultCode) (v : FaultValue) (n : Nat) :
    (State.raiseTimes c v n s).rep.Fine := by
  induction n generalizing s with
  | zero => exact hr
  | succ n ih =>
    simp only [State.raiseTimes]
    exact ih (hr.raise c v)

@[simp] theorem Report.Fine.emitEach_keeps {s : State} (hr : s.rep.Fine) (es : List PlacedEvent) :
    (State.emitEach es s).rep.Fine :=
  Report.Fine.emitEach es hr

@[simp] theorem Report.Fine.emitAllAt_keeps {s : State} (hr : s.rep.Fine) (p : Int) (bs : List EventBody) :
    (State.emitAllAt p bs s).rep.Fine :=
  Report.Fine.emitAllAt p bs hr

@[simp] theorem Report.Fine.offerReports_keeps {s : State} (hr : s.rep.Fine) : (s.offerReports).rep.Fine := by
  unfold State.offerReports
  split
  · split
    · exact ⟨hr.spans, by simpa using Nat.le_trans (takeFitting_rest_length _ _ _ _) hr.events, hr.flight, hr.records, hr.counts⟩
    · split
      · next hx =>
        split
        · exact hr
        · exact ⟨hr.spans, hr.events, fun _ => by simp [hx], hr.records, hr.counts⟩
      · exact hr
  · exact hr

@[simp] theorem Report.Fine.arbitrate_keeps {s : State} (hr : s.rep.Fine) : (s.arbitrate).rep.Fine := by
  unfold State.arbitrate
  (try dsimp only)
  (repeat' split) <;> simp [hr, Report.Fine.produce, Report.Fine.storeSpan]

@[simp] theorem Report.Fine.settle_keeps {s : State} (hr : s.rep.Fine) :
    (s.settle).rep.Fine :=
  (Report.Fine.arbitrate_keeps hr).causes _ _ _ _ _

@[simp] theorem Report.Fine.overrun_keeps {s : State} (hr : s.rep.Fine) (k : Byte) : (s.overrun k).rep.Fine := by
  unfold State.overrun
  (try dsimp only)
  (repeat' split) <;> simp [hr, Report.Fine.produce, Report.Fine.storeSpan]

@[simp] theorem Report.Fine.closeEndedMonitors_keeps {s : State} (hr : s.rep.Fine) (o : Outcome) :
    (s.closeEndedMonitors o).rep.Fine := by
  unfold State.closeEndedMonitors
  (try dsimp only)
  (repeat' split) <;> simp [hr, Report.Fine.produce, Report.Fine.storeSpan]

@[simp] theorem Report.Fine.testSlotMonitors_keeps {s : State} (hr : s.rep.Fine) (o : Outcome)  (k : Slot) :
    (s.testSlotMonitors o k).rep.Fine := by
  unfold State.testSlotMonitors
  (try dsimp only)
  (repeat' split) <;> simp [hr, Report.Fine.produce, Report.Fine.storeSpan]

@[simp] theorem Report.Fine.testMonitors_keeps {s : State} (hr : s.rep.Fine) (o : Outcome) :
    (s.testMonitors o).rep.Fine := by
  have h0 := Report.Fine.closeEndedMonitors_keeps hr o
  unfold State.testMonitors
  dsimp only
  split
  · exact Report.Fine.testSlotMonitors_keeps (Report.Fine.testSlotMonitors_keeps (Report.Fine.testSlotMonitors_keeps
      (Report.Fine.testSlotMonitors_keeps h0 o .n0) o .n1) o .n2) o .n3
  · exact h0

@[simp] theorem Report.Fine.watchWires_keeps {s : State} (hr : s.rep.Fine) (o : Outcome) :
    (s.watchWires o).rep.Fine := by
  unfold State.watchWires
  (try dsimp only)
  (repeat' split) <;> simp [hr, Report.Fine.produce, Report.Fine.storeSpan]

@[simp] theorem Report.Fine.takeOutcome_keeps {s : State} (hr : s.rep.Fine) (o : Outcome) :
    (s.takeOutcome o).rep.Fine := by
  unfold State.takeOutcome
  (try dsimp only)
  (repeat' split) <;> simp [hr, Report.Fine.produce, Report.Fine.storeSpan]

@[simp] theorem Report.Fine.closeSpan_keeps {s : State} (hr : s.rep.Fine) (r : CloseReason) (e : Int) (src : Source) :
    (s.closeSpan r e src).rep.Fine := by
  unfold State.closeSpan
  (try dsimp only)
  (repeat' split) <;> simp [hr, Report.Fine.produce, Report.Fine.storeSpan]

@[simp] theorem Report.Fine.changeWireType_keeps {s : State} (hr : s.rep.Fine) : (s.changeWireType).rep.Fine := by
  unfold State.changeWireType
  (try dsimp only)
  (repeat' split) <;> simp [hr, Report.Fine.produce, Report.Fine.storeSpan]

@[simp] theorem Report.Fine.clearSpanMarks_keeps {s : State} (hr : s.rep.Fine) :
    (s.clearSpanMarks).rep.Fine :=
  hr.map fun _ hx => hx

@[simp] theorem Report.Fine.openSpan_keeps {s : State} (hr : s.rep.Fine) (src : Source) (r : SpanRec) :
    (s.openSpan src r).rep.Fine := by
  unfold State.openSpan
  (try dsimp only)
  (repeat' split) <;> simp [hr, Report.Fine.produce, Report.Fine.storeSpan]

@[simp] theorem Report.Fine.candidateAsserted_keeps {s : State} (hr : s.rep.Fine) (p : Int) (src : Source) :
    (s.candidateAsserted p src).rep.Fine := by
  unfold State.candidateAsserted
  (try dsimp only)
  (repeat' split) <;> simp [hr, Report.Fine.produce, Report.Fine.storeSpan]

@[simp] theorem Report.Fine.settleQualified_keeps {s : State} (hr : s.rep.Fine) (src : Source) (c : Candidate) :
    (s.settleQualified src c).rep.Fine := by
  unfold State.settleQualified
  dsimp only
  refine Report.Fine.emit_keeps (Report.Fine.openSpan_keeps ?_ _ _) _
  simp [hr]

@[simp] theorem Report.Fine.closeLong_keeps {s : State} (hr : s.rep.Fine) (e : Int) : (s.closeLong e).rep.Fine := by
  unfold State.closeLong
  (try dsimp only)
  (repeat' split) <;> simp [hr, Report.Fine.produce, Report.Fine.storeSpan]

@[simp] theorem Report.Fine.candidateFailed_keeps {s : State} (hr : s.rep.Fine) : (s.candidateFailed).rep.Fine := by
  unfold State.candidateFailed
  (try dsimp only)
  (repeat' split) <;> simp [hr, Report.Fine.produce, Report.Fine.storeSpan]

@[simp] theorem Report.Fine.checkSpanMaximum_keeps {s : State} (hr : s.rep.Fine) : (s.checkSpanMaximum).rep.Fine := by
  unfold State.checkSpanMaximum
  (try dsimp only)
  (repeat' split) <;> simp [hr, Report.Fine.produce, Report.Fine.storeSpan]

@[simp] theorem Report.Fine.tearDownSpans_keeps {s : State} (hr : s.rep.Fine) (r : CloseReason) (e : Int) :
    (s.tearDownSpans r e).rep.Fine := by
  unfold State.tearDownSpans
  (try dsimp only)
  (repeat' split) <;> simp [hr, Report.Fine.produce, Report.Fine.storeSpan]

@[simp] theorem Report.Fine.raiseSlotsFull_keeps {s : State} (hr : s.rep.Fine) (vs : List Int) :
    (State.raiseSlotsFull vs s).rep.Fine := by
  induction vs generalizing s with
  | nil => exact hr
  | cons v vs ih =>
    simp only [State.raiseSlotsFull]
    exact ih (hr.raise _ _)

@[simp] theorem Report.Fine.track_keeps {s : State} (hr : s.rep.Fine) (sc : Scan) :
    (s.track sc).1.rep.Fine :=
  Report.Fine.raiseSlotsFull_keeps (Report.Fine.emitAllAt _ _ hr) _

@[simp] theorem Report.Fine.changeRun_keeps {s : State} (hr : s.rep.Fine) (new : RunState) (c : RunCause) (fc : Option FaultCode) (cl : Option Word32) (fu : Option Int) :
    (s.changeRun new c fc cl fu).rep.Fine :=
  (hr.produce _ _ _ _).causes _ _ _ _ _

@[simp] theorem Report.Fine.startMeasuring_keeps {s : State} (hr : s.rep.Fine) : (s.startMeasuring).rep.Fine := by
  unfold State.startMeasuring
  (try dsimp only)
  (repeat' split) <;> simp [hr, Report.Fine.produce, Report.Fine.storeSpan]

@[simp] theorem Report.Fine.candidateQualified_keeps {s : State} (hr : s.rep.Fine) (src : Source) :
    (s.candidateQualified src).rep.Fine := by
  unfold State.candidateQualified
  (try dsimp only)
  (repeat' split) <;> simp [hr, Report.Fine.produce, Report.Fine.storeSpan]

@[simp] theorem Report.Fine.pauseRun_keeps {s : State} (hr : s.rep.Fine) (f : Int) : (s.pauseRun f).rep.Fine := by
  unfold State.pauseRun
  (try dsimp only)
  (repeat' split) <;> simp [hr, Report.Fine.produce, Report.Fine.storeSpan]

@[simp] theorem Report.Fine.resumeRun_keeps {s : State} (hr : s.rep.Fine) : (s.resumeRun).rep.Fine := by
  unfold State.resumeRun
  (try dsimp only)
  (repeat' split) <;> simp [hr, Report.Fine.produce, Report.Fine.storeSpan]

@[simp] theorem Report.Fine.enterFaulted_keeps {s : State} (hr : s.rep.Fine) (c : FaultCode) :
    (s.enterFaulted c).rep.Fine := by
  unfold State.enterFaulted
  (try dsimp only)
  (repeat' split) <;> simp [hr, Report.Fine.produce, Report.Fine.storeSpan]

@[simp] theorem Report.Fine.raiseHalting_keeps {s : State} (hr : s.rep.Fine) (c : FaultCode) (v : FaultValue) :
    (s.raiseHalting c v).rep.Fine := by
  unfold State.raiseHalting
  split <;> simp [hr, Report.Fine.halt, Report.Fine.count]

@[simp] theorem Report.Fine.clearMarks_keeps {s : State} (hr : s.rep.Fine) :
    (s.clearMarks).rep.Fine :=
  hr.map fun _ hx => hx

@[simp] theorem Report.Fine.startRun_keeps {s : State} (hr : s.rep.Fine) (p : Int) : (s.startRun p).rep.Fine := by
  unfold State.startRun
  simp [hr]

@[simp] theorem Report.Fine.stopRun_keeps {s : State} (hr : s.rep.Fine) : (s.stopRun).rep.Fine := by
  have h0 := Report.Fine.tearDownSpans_keeps hr .runEnd s.currentEnd
  unfold State.stopRun
  dsimp only
  refine Report.Fine.clearMarks_keeps (Report.Fine.changeRun_keeps ?_ _ _ _ _ _)
  simpa using h0

@[simp] theorem Report.Fine.raiseSkip_keeps {s : State} (hr : s.rep.Fine) (r : SkipReason) :
    (s.raiseSkip r).rep.Fine := by
  unfold State.raiseSkip
  (try dsimp only)
  (repeat' split) <;> simp [hr, Report.Fine.produce, Report.Fine.storeSpan]

@[simp] theorem Report.Fine.skip_keeps {s : State} (hr : s.rep.Fine) (r : SkipReason) : (s.skip r).rep.Fine := by
  unfold State.skip
  (try dsimp only)
  (repeat' split) <;> simp [hr, Report.Fine.produce, Report.Fine.storeSpan]

@[simp] theorem Report.Fine.skipTimes_keeps {s : State} (hr : s.rep.Fine) (r : SkipReason) (n : Nat) :
    (State.skipTimes r n s).rep.Fine := by
  induction n generalizing s with
  | zero => exact hr
  | succ n ih =>
    simp only [State.skipTimes]
    exact ih (by simp [hr])

@[simp] theorem Report.Fine.trigger_keeps {s : State} (hr : s.rep.Fine) : (s.trigger).rep.Fine := by
  unfold State.trigger
  (try dsimp only)
  (repeat' split) <;> simp [hr, Report.Fine.produce, Report.Fine.storeSpan]

@[simp] theorem Report.Fine.advanceGrid_keeps {s : State} (hr : s.rep.Fine) (old : Int) :
    (s.advanceGrid old).rep.Fine := by
  unfold State.advanceGrid
  (try dsimp only)
  (repeat' split) <;> simp [hr, Report.Fine.produce, Report.Fine.storeSpan]

@[simp] theorem Report.Fine.raiseStale_keeps {s : State} (hr : s.rep.Fine) (j : Judged) :
    (s.raiseStale j).rep.Fine := by
  unfold State.raiseStale
  (try dsimp only)
  (repeat' split) <;> simp [hr, Report.Fine.produce, Report.Fine.storeSpan]

@[simp] theorem Report.Fine.openWindow_keeps {s : State} (hr : s.rep.Fine) : (s.openWindow).rep.Fine := by
  unfold State.openWindow
  (try dsimp only)
  (repeat' split) <;> simp [hr, Report.Fine.produce, Report.Fine.storeSpan]

@[simp] theorem Report.Fine.markStuck_keeps {s : State} (hr : s.rep.Fine) : (s.markStuck).rep.Fine := by
  unfold State.markStuck
  (try dsimp only)
  (repeat' split) <;> simp [hr, Report.Fine.produce, Report.Fine.storeSpan]

@[simp] theorem Report.Fine.markShort_keeps {s : State} (hr : s.rep.Fine) (a : AckCount) :
    (s.markShort a).rep.Fine := by
  unfold State.markShort
  (try dsimp only)
  (repeat' split) <;> simp [hr, Report.Fine.produce, Report.Fine.storeSpan]

@[simp] theorem Report.Fine.decideAck_keeps {s : State} (hr : s.rep.Fine) (a : AckCount) :
    (s.decideAck a).rep.Fine := by
  unfold State.decideAck
  (try dsimp only)
  (repeat' split) <;> simp [hr, Report.Fine.produce, Report.Fine.storeSpan]

@[simp] theorem Report.Fine.raiseTruncated_keeps {s : State} (hr : s.rep.Fine) (n : Nat) :
    (s.raiseTruncated n).rep.Fine := by
  unfold State.raiseTruncated
  (try dsimp only)
  (repeat' split) <;> simp [hr, Report.Fine.produce, Report.Fine.storeSpan]

@[simp] theorem Report.Fine.processScan_keeps {s : State} (hr : s.rep.Fine) (sc : Scan) :
    (s.processScan sc).rep.Fine := by
  unfold State.processScan
  (try dsimp only)
  (repeat' split) <;> simp [hr, Report.Fine.produce, Report.Fine.storeSpan]

@[simp] theorem Report.Fine.deliverScan_keeps {s : State} (hr : s.rep.Fine) (e : Entry) :
    (s.deliverScan e).rep.Fine := by
  unfold State.deliverScan
  (try dsimp only)
  (repeat' split) <;> simp [hr, Report.Fine.produce, Report.Fine.storeSpan]

@[simp] theorem Report.Fine.deliverLoop_keeps {s : State} (hr : s.rep.Fine) (n : Nat) :
    (State.deliverLoop n s).rep.Fine := by
  induction n generalizing s with
  | zero => exact hr
  | succ n ih =>
    unfold State.deliverLoop
    (repeat' split) <;> simp [hr, ih]

@[simp] theorem Report.Fine.deliver_keeps {s : State} (hr : s.rep.Fine) : (s.deliver).rep.Fine := by
  unfold State.deliver
  (try dsimp only)
  (repeat' split) <;> simp [hr, Report.Fine.produce, Report.Fine.storeSpan]

@[simp] theorem Report.Fine.headSilent_keeps {s : State} (hr : s.rep.Fine) (h : Head) :
    (s.headSilent h).rep.Fine := by
  unfold State.headSilent
  (try dsimp only)
  (repeat' split) <;> simp [hr, Report.Fine.produce, Report.Fine.storeSpan]

@[simp] theorem Report.Fine.countIfMissing_keeps {s : State} (hr : s.rep.Fine) (e : Entry) (h : Head) :
    (s.countIfMissing e h).rep.Fine := by
  unfold State.countIfMissing
  (try dsimp only)
  (repeat' split) <;> simp [hr, Report.Fine.produce, Report.Fine.storeSpan]

@[simp] theorem Report.Fine.raiseHeadsLost_keeps {s : State} (hr : s.rep.Fine) (b : Pair HeadLink) :
    (s.raiseHeadsLost b).rep.Fine := by
  unfold State.raiseHeadsLost
  (try dsimp only)
  (repeat' split) <;> simp [hr, Report.Fine.produce, Report.Fine.storeSpan]

@[simp] theorem Report.Fine.expireEntry_keeps {s : State} (hr : s.rep.Fine) (e : Entry) :
    (s.expireEntry e).rep.Fine := by
  unfold State.expireEntry
  refine Report.Fine.deliver_keeps (Report.Fine.raiseHeadsLost_keeps (Report.Fine.countIfMissing_keeps
    (Report.Fine.countIfMissing_keeps ?_ _ _) _ _) _)
  exact hr

@[simp] theorem Report.Fine.badHeadFrame_keeps {s : State} (hr : s.rep.Fine) (h : Head) (r : HeadReason) :
    (s.badHeadFrame h r).rep.Fine := by
  unfold State.badHeadFrame
  (try dsimp only)
  (repeat' split) <;> simp [hr, Report.Fine.produce, Report.Fine.storeSpan]

@[simp] theorem Report.Fine.abandonHeadFrame_keeps {s : State} (hr : s.rep.Fine) (h : Head) (r : HeadReason) :
    (s.abandonHeadFrame h r).rep.Fine := by
  unfold State.abandonHeadFrame
  (try dsimp only)
  (repeat' split) <;> simp [hr, Report.Fine.produce, Report.Fine.storeSpan]

@[simp] theorem Report.Fine.takeReturns_keeps {s : State} (hr : s.rep.Fine) (h : Head) (f : ReturnsFrame) :
    (s.takeReturns h f).rep.Fine := by
  unfold State.takeReturns
  (try dsimp only)
  (repeat' split) <;> simp [hr, Report.Fine.produce, Report.Fine.storeSpan]

@[simp] theorem Report.Fine.takeMastReport_keeps {s : State} (hr : s.rep.Fine) (r : Option MastReport) :
    (s.takeMastReport r).rep.Fine := by
  unfold State.takeMastReport
  (try dsimp only)
  (repeat' split) <;> simp [hr, Report.Fine.produce, Report.Fine.storeSpan]

@[simp] theorem Report.Fine.moveMast_keeps {s : State} (hr : s.rep.Fine) (m : MastStep) :
    (s.moveMast m).rep.Fine := by
  unfold State.moveMast
  (try dsimp only)
  (repeat' split) <;> simp [hr, Report.Fine.produce, Report.Fine.storeSpan]

@[simp] theorem Report.Fine.setZone_keeps {s : State} (hr : s.rep.Fine) (z : Bool) : (s.setZone z).rep.Fine := by
  unfold State.setZone
  (try dsimp only)
  (repeat' split) <;> simp [hr, Report.Fine.produce, Report.Fine.storeSpan]

@[simp] theorem Report.Fine.zoneQualified_keeps {s : State} (hr : s.rep.Fine) : (s.zoneQualified).rep.Fine := by
  unfold State.zoneQualified
  (try dsimp only)
  (repeat' split) <;> simp [hr, Report.Fine.produce, Report.Fine.storeSpan]

@[simp] theorem Report.Fine.zoneReleased_keeps {s : State} (hr : s.rep.Fine) : (s.zoneReleased).rep.Fine := by
  unfold State.zoneReleased
  (try dsimp only)
  (repeat' split) <;> simp [hr, Report.Fine.produce, Report.Fine.storeSpan]

@[simp] theorem Report.Fine.siteQualified_keeps {s : State} (hr : s.rep.Fine) : (s.siteQualified).rep.Fine := by
  unfold State.siteQualified
  (try dsimp only)
  (repeat' split) <;> simp [hr, Report.Fine.produce, Report.Fine.storeSpan]

@[simp] theorem Report.Fine.handAssertion_keeps {s : State} (hr : s.rep.Fine) (m : Marker) :
    (s.handAssertion m).rep.Fine := by
  unfold State.handAssertion
  (try dsimp only)
  (repeat' split) <;> simp [hr, Report.Fine.produce, Report.Fine.storeSpan]

@[simp] theorem Report.Fine.handQualification_keeps {s : State} (hr : s.rep.Fine) (m : Marker) :
    (s.handQualification m).rep.Fine := by
  unfold State.handQualification
  (try dsimp only)
  (repeat' split) <;> simp [hr, Report.Fine.produce, Report.Fine.storeSpan]

@[simp] theorem Report.Fine.handFailure_keeps {s : State} (hr : s.rep.Fine) (m : Marker) :
    (s.handFailure m).rep.Fine := by
  unfold State.handFailure
  (try dsimp only)
  (repeat' split) <;> simp [hr, Report.Fine.produce, Report.Fine.storeSpan]

@[simp] theorem Report.Fine.handRelease_keeps {s : State} (hr : s.rep.Fine) (m : Marker) :
    (s.handRelease m).rep.Fine := by
  unfold State.handRelease
  (try dsimp only)
  (repeat' split) <;> simp [hr, Report.Fine.produce, Report.Fine.storeSpan]

@[simp] theorem Report.Fine.qualifyChannel_keeps {s : State} (hr : s.rep.Fine) (m : Marker) :
    (s.qualifyChannel m).rep.Fine := by
  unfold State.qualifyChannel
  (try dsimp only)
  (repeat' split) <;> simp [hr, Report.Fine.produce, Report.Fine.storeSpan]

@[simp] theorem Report.Fine.assertChannel_keeps {s : State} (hr : s.rep.Fine) (m : Marker) :
    (s.assertChannel m).rep.Fine := by
  unfold State.assertChannel
  (try dsimp only)
  (repeat' split) <;> simp [hr, Report.Fine.produce, Report.Fine.storeSpan]

@[simp] theorem Report.Fine.dropChannel_keeps {s : State} (hr : s.rep.Fine) (m : Marker) :
    (s.dropChannel m).rep.Fine := by
  unfold State.dropChannel
  (try dsimp only)
  (repeat' split) <;> simp [hr, Report.Fine.produce, Report.Fine.storeSpan]

@[simp] theorem Report.Fine.markerLevel_keeps {s : State} (hr : s.rep.Fine) (m : Marker) (l : Bool) :
    (s.markerLevel m l).rep.Fine := by
  unfold State.markerLevel
  (try dsimp only)
  (repeat' split) <;> simp [hr, Report.Fine.produce, Report.Fine.storeSpan]

@[simp] theorem Report.Fine.checkChannel_keeps {s : State} (hr : s.rep.Fine) (m : Marker) :
    (s.checkChannel m).rep.Fine := by
  unfold State.checkChannel
  (try dsimp only)
  (repeat' split) <;> simp [hr, Report.Fine.produce, Report.Fine.storeSpan]

@[simp] theorem Report.Fine.checkChannels_keeps {s : State} (hr : s.rep.Fine) : (s.checkChannels).rep.Fine := by
  unfold State.checkChannels
  split
  · exact hr
  · exact Report.Fine.checkChannel_keeps (Report.Fine.checkChannel_keeps (Report.Fine.checkChannel_keeps
      (Report.Fine.checkChannel_keeps hr .n0) .n1) .n2) .n3

@[simp] theorem Report.Fine.acceptMarker_keeps {s : State} (hr : s.rep.Fine) (m : Marker) (l : Bool) :
    (s.acceptMarker m l).rep.Fine := by
  unfold State.acceptMarker
  (try dsimp only)
  (repeat' split) <;> simp [hr, Report.Fine.produce, Report.Fine.storeSpan]

@[simp] theorem Report.Fine.markerChanged_keeps {s : State} (hr : s.rep.Fine) (m : Marker) (l : Bool) :
    (s.markerChanged m l).rep.Fine := by
  unfold State.markerChanged
  (try dsimp only)
  (repeat' split) <;> simp [hr, Report.Fine.produce, Report.Fine.storeSpan]

@[simp] theorem Report.Fine.checkTravel_keeps {s : State} (hr : s.rep.Fine) : (s.checkTravel).rep.Fine := by
  unfold State.checkTravel
  (try dsimp only)
  (repeat' split) <;> simp [hr, Report.Fine.produce, Report.Fine.storeSpan]

@[simp] theorem Report.Fine.positionChanged_keeps {s : State} (hr : s.rep.Fine) (old : Int) :
    (s.positionChanged old).rep.Fine :=
  Report.Fine.checkSpanMaximum_keeps (Report.Fine.checkChannels_keeps (Report.Fine.advanceGrid_keeps
    (Report.Fine.checkTravel_keeps hr) _))

@[simp] theorem Report.Fine.encoderEdge_keeps {s : State} (hr : s.rep.Fine) (l : EncoderLine) :
    (s.encoderEdge l).rep.Fine := by
  unfold State.encoderEdge
  (try dsimp only)
  (repeat' split) <;> simp [hr, Report.Fine.produce, Report.Fine.storeSpan]

@[simp] theorem Report.Fine.phaseError_keeps {s : State} (hr : s.rep.Fine) : (s.phaseError).rep.Fine := by
  unfold State.phaseError
  (try dsimp only)
  (repeat' split) <;> simp [hr, Report.Fine.produce, Report.Fine.storeSpan]

@[simp] theorem Report.Fine.attitudeReading_keeps {s : State} (hr : s.rep.Fine) (c : AdcChannel) (f r : Int) :
    (s.attitudeReading c f r).rep.Fine := by
  unfold State.attitudeReading
  (try dsimp only)
  (repeat' split) <;> simp [hr, Report.Fine.produce, Report.Fine.storeSpan]

@[simp] theorem Report.Fine.evaluateTemp_keeps {s : State} (hr : s.rep.Fine) (r : Int) :
    (s.evaluateTemp r).rep.Fine := by
  unfold State.evaluateTemp
  (try dsimp only)
  (repeat' split) <;> simp [hr, Report.Fine.produce, Report.Fine.storeSpan]

@[simp] theorem Report.Fine.discardTemp_keeps {s : State} (hr : s.rep.Fine) : (s.discardTemp).rep.Fine := by
  unfold State.discardTemp
  (try dsimp only)
  (repeat' split) <;> simp [hr, Report.Fine.produce, Report.Fine.storeSpan]

@[simp] theorem Report.Fine.tempReading_keeps {s : State} (hr : s.rep.Fine) (f r : Int) :
    (s.tempReading f r).rep.Fine := by
  unfold State.tempReading
  (try dsimp only)
  (repeat' split) <;> simp [hr, Report.Fine.produce, Report.Fine.storeSpan]

@[simp] theorem Report.Fine.completeReading_keeps {s : State} (hr : s.rep.Fine) (f r : Int) :
    (s.completeReading f r).rep.Fine := by
  unfold State.completeReading
  (try dsimp only)
  (repeat' split) <;> simp [hr, Report.Fine.produce, Report.Fine.storeSpan]

@[simp] theorem Report.Fine.raiseCalInvalid_keeps {s : State} (hr : s.rep.Fine) (b : List Byte) :
    (raiseCalInvalid b s).rep.Fine := by
  unfold raiseCalInvalid
  (try dsimp only)
  (repeat' split) <;> simp [hr, Report.Fine.produce, Report.Fine.storeSpan]

@[simp] theorem Report.Fine.loadCalibration_keeps {s : State} (hr : s.rep.Fine) : (s.loadCalibration).rep.Fine := by
  unfold State.loadCalibration
  (try dsimp only)
  (repeat' split) <;> simp [hr, Report.Fine.produce, Report.Fine.storeSpan]

@[simp] theorem Report.Fine.endStore_keeps {s : State} (hr : s.rep.Fine) (b : List Byte) :
    (s.endStore b).rep.Fine := by
  unfold State.endStore
  (try dsimp only)
  (repeat' split) <;> simp [hr, Report.Fine.produce, Report.Fine.storeSpan]

@[simp] theorem Report.Fine.fetchSpans_keeps {s : State} (hr : s.rep.Fine) (n : Nat) : (s.fetchSpans n).rep.Fine := by
  have hs := takeFitting_rest_length SpanRec.size (min n spanCapacity) spanRoom s.rep.spans.waiting
  have h1 := hr.spans
  have h2 := hr.flight
  refine ⟨?_, hr.events, ?_, hr.records, hr.counts⟩ <;>
    (simp only [State.fetchSpans, State.accept, State.reply, SpanQueue.flying, SpanQueue.waiting] at hs ⊢
     cases hf : s.rep.spans.inFlight <;> cases hx : s.rep.spans.items <;> simp_all <;> omega)

@[simp] theorem Report.Fine.fetchEvents_keeps {s : State} (hr : s.rep.Fine) (n : Nat) :
    (s.fetchEvents n).rep.Fine :=
  ⟨hr.spans, Nat.le_trans (takeFitting_rest_length _ _ _ _) hr.events, hr.flight, hr.records, hr.counts⟩

@[simp] theorem Report.Fine.acknowledge_keeps {s : State} (hr : s.rep.Fine) (c : Causes) :
    (s.acknowledge c).rep.Fine := by
  unfold State.acknowledge
  dsimp only [State.accept_rep]
  unfold Report.pulseAfter
  split <;> exact ⟨hr.spans, hr.events, hr.flight, hr.records, hr.counts⟩

@[simp] theorem Report.Fine.endFrame_keeps {s : State} (hr : s.rep.Fine) (f : Frame) : (s.endFrame f).rep.Fine := by
  have h1 := hr.spans
  have h2 := hr.flight
  unfold State.endFrame
  dsimp only
  split
  · refine ⟨?_, hr.events, ?_, hr.records, hr.counts⟩ <;> (dsimp only [SpanQueue.landed]; split <;> simp_all <;> omega)
  · exact hr

@[simp] theorem Report.Fine.abandonHostFrame_keeps {s : State} (hr : s.rep.Fine) (r : LinkReason) :
    (s.abandonHostFrame r).rep.Fine := by
  unfold State.abandonHostFrame
  (try dsimp only)
  (repeat' split) <;> simp [hr, Report.Fine.produce, Report.Fine.storeSpan]

end Sys2Proof.Machine
end

