-- ==== Sys2Proof/Laws/Bytes.lean ====
section
/-! SUPPORT. Bytes and numbers (R197): what `toBytes`, `natOfBytes` and `ofBytes` do to each other, and reading fields that
were written. -/

namespace Sys2Proof.Machine

/-- A number takes as many bytes as its width. -/
@[simp] theorem toBytes_length (w : Nat) (v : Int) : (toBytes w v).length = w := by
  induction w generalizing v with
  | zero => rfl
  | succ w ih => simp [toBytes, ih]

/-- Bytes hold less than their capacity. -/
theorem natOfBytes_lt (bs : List Byte) : natOfBytes bs < 256 ^ bs.length := by
  induction bs with
  | nil => simp [natOfBytes]
  | cons b bs ih =>
    have hb : b.toNat < 256 := b.isLt
    simp only [natOfBytes, List.length_cons, Nat.pow_succ]
    omega

/-- The remainder by 256 and the remainder of the quotient make the remainder by their product. -/
theorem emod_by_bytes (v p : Int) (hp : 0 < p) : v % (256 * p) = v % 256 + 256 * (v / 256 % p) := by
  have h1 : v = 256 * (v / 256) + v % 256 := by omega
  have h2 : v / 256 = p * (v / 256 / p) + v / 256 % p := (Int.mul_ediv_add_emod (v / 256) p).symm
  have h3 := Int.emod_nonneg (v / 256) (by omega : p ≠ 0)
  have h4 := Int.emod_lt_of_pos (v / 256) hp
  have h5 : v = (v % 256 + 256 * (v / 256 % p)) + 256 * p * (v / 256 / p) := by
    rw [Int.mul_assoc]; omega
  have h6 : (v % 256 + 256 * (v / 256 % p)) % (256 * p) = v % 256 + 256 * (v / 256 % p) :=
    Int.emod_eq_of_lt (by omega) (by omega)
  rw [← h6]
  conv => lhs; rw [h5]
  exact Int.add_mul_emod_self_left _ _ _

/-- What a number's bytes hold is the number, modulo their capacity. -/
theorem natOfBytes_toBytes (w : Nat) (v : Int) : (natOfBytes (toBytes w v) : Int) = v % ((256 ^ w : Nat) : Int) := by
  induction w generalizing v with
  | zero => simp only [toBytes, natOfBytes, Nat.pow_zero]; omega
  | succ w ih =>
    have hb : ((BitVec.ofInt 8 v).toNat : Int) = v % 256 := by
      rw [BitVec.toNat_ofInt]; omega
    have hp : 0 < 256 ^ w := Nat.pow_pos (by decide)
    have hi := ih (v / 256)
    have e := emod_by_bytes v ((256 ^ w : Nat) : Int) (by omega)
    have hc : ((256 ^ (w + 1) : Nat) : Int) = 256 * ((256 ^ w : Nat) : Int) := by
      rw [Nat.pow_succ, Nat.mul_comm]; omega
    rw [hc, e, ← hi, ← hb]
    simp only [toBytes, natOfBytes]
    omega

/-- A number that fits its bytes without sign reads back. -/
theorem ofBytes_toBytes_unsigned (w : Nat) (v : Int) (h0 : 0 ≤ v) (h1 : v < ((256 ^ w : Nat) : Int)) :
    ofBytes false (toBytes w v) = v := by
  simp only [ofBytes, Bool.false_and, Bool.false_eq_true, if_false]
  rw [natOfBytes_toBytes]
  exact Int.emod_eq_of_lt h0 h1

/-- A number that fits its bytes with a sign reads back. -/
theorem ofBytes_toBytes_signed (w : Nat) (v : Int) (h0 : -((256 ^ w : Nat) : Int) ≤ 2 * v)
    (h1 : 2 * v < ((256 ^ w : Nat) : Int)) : ofBytes true (toBytes w v) = v := by
  have hm := natOfBytes_toBytes w v
  have hp : 0 < 256 ^ w := Nat.pow_pos (by decide)
  simp only [ofBytes, Bool.true_and, toBytes_length]
  by_cases hv : 0 ≤ v
  · have e : v % ((256 ^ w : Nat) : Int) = v := Int.emod_eq_of_lt hv (by omega)
    rw [if_neg (by simp only [decide_eq_true_eq]; omega), hm, e]
  · have e : v % ((256 ^ w : Nat) : Int) = v + ((256 ^ w : Nat) : Int) := by
      rw [← Int.add_emod_right]
      exact Int.emod_eq_of_lt (by omega) (by omega)
    rw [if_pos (by simp only [decide_eq_true_eq]; omega), hm, e]
    omega

/-- Bytes that hold a number are that number's bytes. -/
theorem toBytes_natOfBytes (bs : List Byte) : toBytes bs.length (natOfBytes bs) = bs := by
  induction bs with
  | nil => rfl
  | cons b bs ih =>
    have hb : b.toNat < 256 := b.isLt
    have hq : ((natOfBytes (b :: bs) : Nat) : Int) / 256 = ((natOfBytes bs : Nat) : Int) := by
      simp only [natOfBytes]; omega
    have hr : BitVec.ofInt 8 ((natOfBytes (b :: bs) : Nat) : Int) = b := by
      apply BitVec.eq_of_toNat_eq
      rw [BitVec.toNat_ofInt]
      simp only [natOfBytes]; omega
    simp only [List.length_cons, toBytes, hq, hr, ih]

/-- A number and the same number less the bytes' capacity have the same bytes. -/
theorem toBytes_sub_capacity (w : Nat) (v : Int) : toBytes w (v - ((256 ^ w : Nat) : Int)) = toBytes w v := by
  induction w generalizing v with
  | zero => rfl
  | succ w ih =>
    have hc : ((256 ^ (w + 1) : Nat) : Int) = 256 * ((256 ^ w : Nat) : Int) := by
      rw [Nat.pow_succ, Nat.mul_comm]; omega
    have hq : (v - ((256 ^ (w + 1) : Nat) : Int)) / 256 = v / 256 - ((256 ^ w : Nat) : Int) := by rw [hc]; omega
    have hr : BitVec.ofInt 8 (v - ((256 ^ (w + 1) : Nat) : Int)) = BitVec.ofInt 8 v := by
      apply BitVec.eq_of_toNat_eq
      rw [BitVec.toNat_ofInt, BitVec.toNat_ofInt, hc]; omega
    simp only [toBytes, hq, hr, ih]

/-- Writing back what bytes hold gives the bytes. -/
theorem toBytes_ofBytes (signed : Bool) (bs : List Byte) : toBytes bs.length (ofBytes signed bs) = bs := by
  simp only [ofBytes]
  split
  · rw [toBytes_sub_capacity, toBytes_natOfBytes]
  · exact toBytes_natOfBytes bs

/-- A value that a field can carry. -/
def Field.carries (f : Field) (v : Int) : Prop :=
  if f.signed then -((256 ^ f.width : Nat) : Int) ≤ 2 * v ∧ 2 * v < ((256 ^ f.width : Nat) : Int)
  else 0 ≤ v ∧ v < ((256 ^ f.width : Nat) : Int)

/-- A value that a field can carry reads back from its bytes. -/
theorem Field.reads_back (f : Field) (v : Int) (h : f.carries v) : ofBytes f.signed (toBytes f.width v) = v := by
  rcases f with ⟨w, sg, d⟩
  cases sg
  · exact ofBytes_toBytes_unsigned w v h.1 h.2
  · exact ofBytes_toBytes_signed w v h.1 h.2

/-- Values that their fields can carry. -/
def fieldsCarry : List Field → List Int → Prop
  | [], [] => True
  | f :: fs, v :: vs => f.carries v ∧ fieldsCarry fs vs
  | [], _ :: _ => False
  | _ :: _, [] => False

/-- Written fields read back. -/
theorem readFields_writeFields (fs : List Field) (vs : List Int) (h : fieldsCarry fs vs) :
    readFields fs (writeFields fs vs) = vs := by
  induction fs generalizing vs with
  | nil => cases vs with
    | nil => rfl
    | cons v vs => exact absurd h (by simp [fieldsCarry])
  | cons f fs ih => cases vs with
    | nil => exact absurd h (by simp [fieldsCarry])
    | cons v vs =>
      have hw : (toBytes f.width v).length = f.width := toBytes_length _ _
      simp only [writeFields, readFields]
      rw [List.take_append_of_le_length (by omega), List.take_of_length_le (by omega),
        List.drop_append_of_le_length (by omega), List.drop_of_length_le (by omega), List.nil_append,
        ih vs h.2, f.reads_back v h.1]

/-- Writing back the fields that bytes hold gives the bytes, when they have the fields' length. -/
theorem writeFields_readFields (fs : List Field) (bs : List Byte) (h : bs.length = fieldsLength fs) :
    writeFields fs (readFields fs bs) = bs := by
  induction fs generalizing bs with
  | nil => simp only [fieldsLength] at h; simp only [writeFields, List.eq_nil_of_length_eq_zero h]
  | cons f fs ih =>
    simp only [fieldsLength] at h
    have ht : (bs.take f.width).length = f.width := by simp only [List.length_take]; omega
    have hb := toBytes_ofBytes f.signed (bs.take f.width)
    rw [ht] at hb
    simp only [readFields, writeFields]
    rw [hb, ih (bs.drop f.width) (by simp only [List.length_drop]; omega), List.take_append_drop]

/-- As many values are read as there are fields. -/
@[simp] theorem readFields_length (fs : List Field) (bs : List Byte) : (readFields fs bs).length = fs.length := by
  induction fs generalizing bs with
  | nil => rfl
  | cons f fs ih => simp only [readFields, List.length_cons, ih]

/-! ### Checked fields (R165) -/

/-- A range holds the values between its ends. -/
@[simp] theorem Domain.holds_range (lo hi v : Int) : ((Domain.range lo hi).holds v = true) = (lo ≤ v ∧ v ≤ hi) := by
  simp [Domain.holds]

/-- A set of values holds its members. -/
@[simp] theorem Domain.holds_oneOf (vs : List Int) (v : Int) : ((Domain.oneOf vs).holds v = true) = (v ∈ vs) := by
  simp [Domain.holds]

/-- No field is bad when the first is not and none of the rest is. -/
theorem firstBad_cons_eq_none (n : Nat) (f : Field) (fs : List Field) (v : Int) (vs : List Int) :
    firstBad n (f :: fs) (v :: vs) = none ↔ f.domain.holds v = true ∧ firstBad (n + 1) fs vs = none := by
  simp only [firstBad]
  split <;> simp_all

/-- No fields, no bad field. -/
@[simp] theorem firstBad_nil (n : Nat) : firstBad n [] [] = none := rfl

/-- The first bad field is one of the fields. -/
theorem firstBad_bounds (n : Nat) (fs : List Field) (vs : List Int) (i : Nat) (h : firstBad n fs vs = some i) :
    n ≤ i ∧ i < n + fs.length := by
  induction fs generalizing n vs with
  | nil => cases vs <;> simp [firstBad] at h
  | cons f fs ih => cases vs with
    | nil => simp [firstBad] at h
    | cons v vs =>
      simp only [firstBad] at h
      split at h
      · have := ih (n + 1) vs h
        simp only [List.length_cons]; omega
      · simp only [Option.some.injEq] at h
        simp only [List.length_cons]; omega

/-- Checking fields gives the index of a field, or finds every range and relation kept and gives what the values make. -/
theorem checkFields_cases {α : Type} (n : Nat) (fs : List Field) (relation : List Int → Option Nat)
    (make : List Int → α) (bs : List Byte)
    (hr : ∀ vs i, relation vs = some i → n ≤ i ∧ i < n + fs.length) :
    (∃ i, n ≤ i ∧ i < n + fs.length ∧ checkFields n fs relation make bs = .bad i)
      ∨ (firstBad n fs (readFields fs bs) = none ∧ relation (readFields fs bs) = none
        ∧ checkFields n fs relation make bs = .good (make (readFields fs bs))) := by
  cases h1 : firstBad n fs (readFields fs bs) with
  | some i =>
    have hi := firstBad_bounds n fs _ i h1
    exact .inl ⟨i, hi.1, hi.2, by simp only [checkFields, h1]⟩
  | none =>
    cases h2 : relation (readFields fs bs) with
    | some i => exact .inl ⟨i, (hr _ _ h2).1, (hr _ _ h2).2, by simp only [checkFields, h1, h2]⟩
    | none => exact .inr ⟨rfl, rfl, by simp only [checkFields, h1, h2]⟩

end Sys2Proof.Machine
end

