-- ==== Sys2Proof/Tests/Slice0.lean ====
section
/-! SUPPORT. Tests: the smoke test of WellFormed, worked examples of the manual on single steps, and for each statement with
hypotheses a concrete state and operands that meet them. Expected values come from the manual's examples or by hand. -/

namespace Sys2Proof.Tests

open Sys2Proof Sys2Proof.Machine

-- Each kernel evaluation below would otherwise hold a thread of its own while it waits for the one before it.
set_option Elab.async false

/-! ### States -/

/-- The next state of an outcome. -/
def after (o : Host.Outcome State Fault Refusal) : State :=
  match o with
  | .next t => t
  | .fault _ => State.reset
  | .refused _ => State.reset

/-- After the start-up, in STOPPED. -/
def idle : State :=
  { State.reset with
    link := { State.reset.link with handling := .openForRequests }, cal := { State.reset.cal with valid := true } }

/-- A run in ARMED. -/
def armed : State := { idle with run := { state := .armed, number := 1, cause := some .startRun, causeFault := none } }

/-- ARMED with the active mode replaced. -/
def armedIn (m : TrigMode) : State :=
  { armed with cfg := { armed.cfg with exposure := { armed.cfg.exposure with mode := m } } }

/-- A span record that opened at a position. -/
def openAt (start : Int) : SpanRec := { SpanRec.startingAt start with run := 1 }

/-- A run in MEASURING with a span open. -/
def measuring : State :=
  { idle with
    run := { state := .measuring, number := 1, cause := some .firstMast, causeFault := none }
    span := { SpanBuilder.initial with opened := some (openAt 0) } }

/-- The position held. -/
def atMm (mm : Int) (s : State) : State := { s with odo := { s.odo with acc := mm * 1000000, furthest := mm } }

/-- An entry in WAITING whose window has ended. -/
def waiting (n : Word32) (ended : Nat) : Entry :=
  { newEntry .initial false ⟨true, true⟩ n with phase := .waiting, windowEnd := some ended }

/-- A run with a window open. -/
def inWindow : State :=
  { armed with
    table := [{ waiting 1 0 with windowEnd := none }]
    expo := { armed.expo with
              state := .window, counter := 1, expSync := true, lasDrv := true, stuckDue := some 240
              burst := some { left := 4, on := true, due := 80 }
              ack := some { exposure := 1, pulses := 4, count := 0, due := none } } }

/-- A run in the blank-out, with a STOP_RUN held. -/
def inBlank : State :=
  { idle with
    link := { idle.link with handling := .heldForStop, stopClosed := some 7 }
    expo := { idle.expo with state := .blank, blankDue := some 1200, guardDue := some 200 } }

/-- A request can be taken. -/
theorem idle_takes : idle.takesRequests := ⟨rfl, rfl, rfl⟩

/-- A request can be taken in a run. -/
theorem armed_takes (m : TrigMode) : (armedIn m).takesRequests := ⟨rfl, rfl, rfl⟩

/-! ### WellFormed refuses what no occurrence is -/

theorem test_wellFormed_longPayload : (Instr.identify (List.replicate 1025 0)).wellFormed = false := by decide +kernel
theorem test_wellFormed_longSet : (Instr.setGroupLine (List.replicate 1024 0)).wellFormed = false := by decide +kernel
theorem test_wellFormed_shortBlock : (Instr.calStoreDone (List.replicate 62 0)).wellFormed = false := by decide +kernel
theorem test_wellFormed_returnsCount : (Instr.returnsFrameReceived .a (1 :: 7 :: List.replicate 56 0) true).wellFormed = false := by
  decide +kernel
theorem test_wellFormed_returnsLength : (Instr.returnsFrameReceived .a [1, 1, 0] true).wellFormed = false := by decide +kernel
theorem test_wellFormed_knownKind : (Instr.unknownRequest 0x13 []).wellFormed = false := by decide +kernel
theorem test_wellFormed_knownGroup : (Instr.unknownRequest 0x03 [7]).wellFormed = false := by decide +kernel
theorem test_wellFormed_longHeadFrame : (Instr.headFrameError .b (.whole 0x41 (List.replicate 1025 0) 0)).wellFormed = false := by
  decide +kernel

/-! ### Arithmetic (R71, R81, R199, spec 5.12) -/

theorem test_crc16 : crc16 [0x31, 0x32, 0x33, 0x34, 0x35, 0x36, 0x37, 0x38, 0x39] = 0x29B1 := by decide +kernel
theorem test_crc32 : crc32 [0x31, 0x32, 0x33, 0x34, 0x35, 0x36, 0x37, 0x38, 0x39] = 0xFC891918 := by decide +kernel
theorem test_roundDiv : [roundDiv 4455 10, roundDiv 4454999 10000, roundDiv (-4455) 10, roundDiv (-4454999) 10000, roundDiv 1 2,
    roundDiv (-1) 2, roundDiv 1 (-2)] = [446, 445, -446, -445, 1, -1, -1] := by decide +kernel
theorem test_isqrt : [isqrt 25760000, isqrt 35937500, isqrt 0, isqrt 18446744073709551615] = [5075, 5994, 0, 4294967295] := by
  decide +kernel
theorem test_wearEdges :
    [wearSample 6000 0 499 (wearIndication 6000 500 false 499), wearSample 6000 0 500 (wearIndication 6000 500 false 500),
      wearSample 6000 0 6400 (wearIndication 6000 500 true 6400), wearSample 6000 0 7200 (wearIndication 6000 500 false 7200),
      wearSample 6000 0 12000 (wearIndication 6000 500 false 12000)] =
      [some ⟨12000, 0, 1000, 0⟩, some ⟨11994, 6, 1000, 0⟩, none, some ⟨10800, 1200, 900, 0⟩, none] := by decide +kernel

/-! ### Attitude and geometry (spec 4.9, 5.9 to 5.11) -/

theorem test_chopped : [chopped 5250 (-4990), chopped (-2700) 3060, chopped (-6650) 6950] = [5120, -2880, -6800] := by decide +kernel
theorem test_snapshot : snapshotOf { CalFields.initial with zeroLAT := 400 } 5120 (-2880) (-6800) = ⟨3125, 700, -4500⟩ := by
  decide +kernel
theorem test_temperature : readingTemperature .initial 629300 = 4150 ∧ strainOf .initial 4150 = 495
    ∧ strainOf .initial (-152) = -495 := by decide +kernel
theorem test_thermalShift : thermalXc .initial false 495 .b 2350 = 235446 ∧ thermalXc .initial true 495 .b 2350 = -235446
    ∧ thermalXc .initial false (-495) .a 0 = 446 := by decide +kernel

/-- The return of head B in spec 5.9. -/
def returnOfB : ScanReturn := { source := .b, xc := 235446, zh := 12480, wh := 6400, peak := 180, saturated := false, place := 0 }

theorem test_geometry : (let r := convertReturn .initial .initial false ⟨3125, 700, -4500⟩ returnOfB
    (r.s, r.h, reported r.s, reported r.h, r.sample)) = (247661, 5347964, 2477, 53480, some ⟨11075, 925, 923, 0⟩) := by decide +kernel
theorem test_geometry_reversed : (let r := convertReturn .initial .initial true ⟨3125, 700, -4500⟩ { returnOfB with xc := -235446 }
    (r.s, r.h)) = (-247661, 5347964) := by decide +kernel

/-! ### Merging at the overlap band (spec 1.9) -/

/-- A return of a head at x_h 0 in the band, given by its place, z_h and peak. -/
def banded (place zh peak : Nat) (sent : Int) : HeadReturn := ⟨sent, zh, 5000, peak, false, place⟩

/-- The entry of spec 1.9, with no strain, so that x_c is 100 × x_h. -/
def mergingEntry : Entry :=
  { waiting 1 0 with
    returnsA := [banded 0 12450 150 (-3121), banded 1 12470 170 402, banded 2 12460 120 429]
    returnsB := [banded 0 12480 190 415, banded 1 12455 110 436, banded 2 12500 160 4020] }

theorem test_scan_keeps : (let r := scanOf .initial .initial { mergingEntry with snapshot := ⟨3125, 700, -4500⟩, strain := 0 }
    (r.snapshot, r.strain, r.returns.map Converted.source)) = (⟨3125, 700, -4500⟩, 0, [.a, .both, .both, .b]) := by decide +kernel
theorem test_merging : ((returnList .initial mergingEntry).1.map fun r => (r.source, r.xc, r.zh, r.peak)) =
    [(.a, -312100, 12450, 150), (.both, 40850, 12475, 190), (.both, 43250, 12458, 120), (.b, 402000, 12500, 160)] := by decide +kernel

/-! ### Commands of the host link (spec 10, 12) -/

/-- IDENTIFY, START_RUN at 10,000 mm and SET_GROUP REPORTING as bytes, their CRC-16 computed apart from the model. -/
theorem test_frames_decode :
    commandOfBytes true [0xA7, 0x3C, 0x00, 0x00, 0x01, 0xBD, 0xDC] = some (.identify [])
      ∧ commandOfBytes true [0xA7, 0x3C, 0x04, 0x00, 0x05, 0x10, 0x27, 0x00, 0x00, 0xAE, 0x0B] = some (.startRun [0x10, 0x27, 0, 0])
      ∧ commandOfBytes true [0xA7, 0x3C, 0x04, 0x00, 0x03, 0x07, 0x01, 0x01, 0x1F, 0x28, 0x68] = some (.setGroupReporting [1, 1, 31]) := by
  decide +kernel
theorem test_frame_damaged : commandOfBytes true [0xA7, 0x3C, 0x00, 0x00, 0x02, 0xBD, 0xDC] = none := by decide +kernel
theorem test_frame_sent : frameBytes (armFrame 180) = [0xA7, 0x3C, 0x01, 0x00, 0x40, 0xB4, 0xE7, 0x18] := by decide +kernel
theorem test_deliveredBlock : deliveredBlock = calImage .initial := by decide +kernel
theorem test_identify : (after (exec (.identify []) idle)).link.tx =
    some ⟨0x81, [0, 0x17, 0x0A, 0xAE, 0x01, 1, 0x00, 0x08, 0x07, 0x00, 4, 4, 32, 64, 8, 6, 0x00, 0x04]⟩ := by decide +kernel
theorem test_busy : (after (exec (.readLive [0, 1]) { idle with cal := { idle.cal with storing := true } })).link.tx =
    some ⟨0x89, [6]⟩ := by decide +kernel
theorem test_overrun : (let t := after (exec (.readLive [0, 1]) { idle with link := { idle.link with tx := some ⟨0x61, []⟩, slot := some ⟨0x8A, []⟩ } })
    (t.link.slot, (t.rep.record .linkOverrun).value)) = (some ⟨0x8A, []⟩, some ⟨0, 9⟩) := by decide +kernel
theorem test_resetPart : (after (exec .hostTxFrameDone (after (exec (.resetPart []) (atMm 5 idle))))).link.handling = .starting
    ∧ (after (exec .hostTxFrameDone (after (exec (.resetPart []) (atMm 5 idle))))).odo.acc = 0 := by decide +kernel
theorem test_status : (after (exec (.status []) idle)).link.tx.map (fun f => f.payload.length) = some 70 := by decide +kernel
theorem test_unknownRequest : (after (exec (.unknownRequest 0x20 [1]) idle)).link.tx = some ⟨0xA0, [5]⟩ := by decide +kernel
theorem test_hostError : (after (exec .hostByteGapTimeout (after (exec .hostRxPreamble idle)))).link.errGap = 1 := by decide +kernel
theorem test_getGroup : (after (exec (.getGroup [2]) idle)).link.tx = some ⟨0x84, [0, 2, 128, 0, 10]⟩ := by decide +kernel
/-- An EXPOSURE payload whose on-time of 10 µs is not below its stuck window of 10 µs, every field in range. -/
def longOnTime : List Byte := { ExposureSet.initial with onTime := 20, stuckWindow := 10 }.payload

theorem test_badValue_range : (after (exec (.setGroupExposure (List.replicate 17 0)) idle)).link.tx = some ⟨0x83, [3, 2]⟩ := by
  decide +kernel
theorem test_badValue_relation : (after (exec (.setGroupExposure longOnTime) idle)).link.tx = some ⟨0x83, [3, 8]⟩ := by
  decide +kernel
theorem test_unknownKind_wraps : (after (exec (.unknownRequest 0x81 []) idle)).link.tx = some ⟨0x01, [5]⟩ := by decide +kernel
theorem test_powerOn_rate : (after (exec (.powerOnReset { deliveredPins with rate1 := true } true) idle)).link.rate = 1843200 := by
  decide +kernel

/-! ### Calibration (spec 10.11) -/

theorem test_calLoad_fails : (let t := after (exec .calLoadDone { State.reset with cal := { State.reset.cal with block := List.replicate 63 0 } })
    (t.cal.valid, t.rep.faultCause, t.rep.attn, (t.rep.record .calInvalid).count, t.link.tx.map Frame.kind)) =
      (false, true, true, 1, some 0x60) := by decide +kernel
theorem test_store : (let t := after (exec (.calStoreDone (calImage idle.cal.work)) { idle with cal := { idle.cal with valid := false, modified := true, storing := true } })
    (t.cal.valid, t.cal.modified, t.cal.storing, t.cal.lastResult)) = (true, false, false, .verified) := by decide +kernel
theorem test_calTemperature : (let t := after (exec (.adcConversionDone (BitVec.ofInt 24 (-629300)))
      { idle with link := { idle.link with handling := .heldForTemperature }
                  att := { idle.att with channel := .temp, first := some 629300, calTemp := some 4150 } })
    (t.cal.work.codeRef, t.cal.work.tRef, t.att.beam, t.link.tx)) =
      (629300, 31465, some 4150, some ⟨0x92, [0, 0x34, 0x9A, 0x09, 0x00]⟩) := by decide +kernel

/-! ### Exposures (spec 2.10) -/

theorem test_trigger_taken : (let t := after (exec (.trigInFilterExpiry true)
      { armedIn .external with expo := { armed.expo with counter := 1203, trigFilter := ⟨some true, some 8⟩, chgEn := true } })
    (t.expo.counter, t.expo.state, t.expo.chgEn, t.heads.a.arm, t.table.length)) =
      (1204, .arming, false, some ⟨180, 48⟩, 1) := by decide +kernel
theorem test_window_forcedEnd : (let t := after (exec .stuckTimerExpiry inWindow)
    (t.expo.state, t.expo.blankDue, t.expo.guardDue, t.expo.expSync, (t.rep.record .driveStuck).count,
      t.table.map fun e => e.flags.illumStuck)) = (.blank, some 1440, some 440, false, 1, [true]) := by decide +kernel
theorem test_ackCount : (let t := after (exec .ackCountDecision { inWindow with expo := { inWindow.expo with ack := some ⟨1, 4, 2, some 260⟩ } })
    (t.clock, (t.rep.record .pulseCount).value, t.table.map fun e => e.flags.illumShort)) = (260, some ⟨0, 2⟩, [true]) := by decide +kernel
theorem test_overrun_skip : (let t := after (exec (.trigInFilterExpiry true)
      { armedIn .external with expo := { armed.expo with state := .blank, blankDue := some 99, trigFilter := ⟨some true, some 8⟩ } })
    (t.expo.skipped, t.expo.counter, (t.rep.record .triggerOverrun).value)) = (1, 0, some ⟨0, 0⟩) := by decide +kernel
theorem test_burst : (after (exec .burstPulseTimer inWindow)).expo.burst = some ⟨4, false, 200⟩ := by decide +kernel
theorem test_grid : (let t := after (exec (.encoderValidEdge .encA true)
      { atMm 250 (armedIn .distance) with odo := { armed.odo with acc := 249999999, furthest := 249 } })
    (t.expo.counter, t.expo.skipped, t.expo.gridBase, (t.rep.record .triggerOverrun).value)) =
      (1, 1, 200, some ⟨2, 0⟩) := by decide +kernel

/-! ### Odometry, runs and markers (spec 3.10, R137) -/

theorem test_startRun : (let t := after (exec (.startRun [0x10, 0x27, 0, 0]) idle)
    (t.run.state, t.run.number, t.odo.acc, t.expo.gridBase, t.expo.chgEn, t.link.tx)) =
      (.armed, 1, 10000000000, 10000, true, some ⟨0x85, [0, 1, 0]⟩) := by decide +kernel
theorem test_reverse_edge : (let s : State := { atMm 61500 measuring with odo := { measuring.odo with acc := 60500000000, furthest := 61500 } }
    let t := after (exec (.encoderValidEdge .encB true) s)
    (t.pos, t.run.state, t.run.cause, t.odo.backTravel, t.rep.spans.items.map fun r => (r.stop, r.reason))) =
      (60499, .paused, some .reverse, true, [(61500, .reverse)]) := by decide +kernel
theorem test_phaseError : (let t := after (exec .encoderPhaseError { measuring with odo := { measuring.odo with phaseLevel := 15 } })
    (t.run.state, t.run.causeFault, t.odo.phaseLevel, t.rep.spans.items.map SpanRec.reason)) =
      (.faulted, some .odoLost, 16, [.fault]) := by decide +kernel
theorem test_speed : (let t := after (exec .speedGate { idle with odo := { idle.odo with acc := 2500000000, gateDue := 40000 } })
    (t.odo.speed, t.odo.direction, t.odo.gateDue, t.live.travel.speed)) = (25000, .forward, 80000, 25000) := by decide +kernel
theorem test_marker_asserts : (let t := after (exec (.markerDebounceExpiry .n0)
      { atMm 48210 measuring with
        pins := { deliveredPins with markers := ⟨true, false, false, false⟩ }
        mark := { Markers.initial with channels := (Four.const { Channel.initial with filter := ⟨some false, some 120⟩ }) } })
    ((t.mark.channels.e0.state, t.mark.channels.e0.target), t.mark.mast, t.span.candidate.map Candidate.position)) =
      ((.pending, 48510), ⟨.pending, 48210, .mk1⟩, some 48210) := by decide +kernel
theorem test_operatorMark : (after (exec (.operatorMark [9]) armed)).rep.events.items.map (fun e => (e.seq, e.body)) =
    [(1, .operatorMark 9)] := by decide +kernel
theorem test_stopRun : (let t := after (exec (.stopRun []) (atMm 500 measuring))
    (t.run.state, t.rep.spans.items.map (fun r => (r.start, r.stop, r.reason)), t.link.tx)) =
      (.stopped, [(0, 500, .runEnd)], some ⟨0x86, [0, 1, 0, 1, 1, 0, 0, 0]⟩) := by decide +kernel

/-! ### Head links and scans (spec 1.8) -/

/-- Spec 1.8 just before 1,008.21 ms. -/
def lagging : State :=
  { armed with
    clock := 4032000
    table := [{ waiting 297 4000840 with delivered := ⟨true, false⟩ },
              { waiting 298 4016840 with phase := .complete, delivered := ⟨true, true⟩ },
              { waiting 299 0 with windowEnd := none }] }

theorem test_headTimeout : (let t := after (exec (.headTimeout 41 true) lagging)
    t.clock = 4032840 ∧ t.table.map Entry.exposure = [299] ∧ t.heads.b.silence = 1
      ∧ (t.rep.record .headSilent).value = some ⟨1, 0⟩ ∧ t.live.expo.exposure = 298) := by decide +kernel
theorem test_lateFrame : (let t := after (exec (.returnsFrameReceived .b [41, 0] true)
      { lagging with table := [], heads := ⟨.initial, { HeadLink.initial with silence := 1 }⟩ })
    (t.heads.b.silence, (t.rep.record .headLate).value)) = (0, some ⟨1, 41⟩) := by decide +kernel
/-- What is left of spec 1.8 once head B has answered exposure 297 in time, with the return of spec 5.9 and no strain. -/
def answered297 : State :=
  after (exec (.returnsFrameReceived .b [41, 1, 0x2E, 0x09, 0xC0, 0x30, 0x00, 0x19, 180, 0] true)
    { lagging with table := lagging.table.take 1 })

theorem test_returns_fill : answered297.table = [] ∧ answered297.live.expo.exposure = 297
    ∧ answered297.trk.tracks.e0.lastS = 235000 ∧ answered297.trk.tracks.e0.lastH = 5348000 := by decide +kernel
theorem test_headFrameError : (after (exec (.headByteGapTimeout .b) (after (exec (.headRxPreamble .b) idle)))).rep.record
    .headFrame = { FaultRecord.empty with count := 1, first := some 0, last := some 0, value := some ⟨17, 0⟩ } := by decide +kernel

/-! ### A crossing (spec 6.13) -/

/-- A wire of spec 6.13 before the scan at 10,500 mm. -/
def crossingWire (id : Nat) (s h rate : Int) (partner : Slot) : Track :=
  { Track.empty with
    state := .confirmed, wireId := some id, lastS := s, lastH := h, rate := rate, lastHit := 10400
    mergedWith := some partner, previousPartner := some partner, mergedDistance := 400 }

/-- Spec 6.13 just before the scan at 10,500 mm. -/
def crossing : State :=
  { measuring with
    trk := { tracks := ⟨crossingWire 17 (-2000) 5300000 10000 .n1, crossingWire 18 2000 5320000 (-10000) .n0, .empty, .empty⟩
             nextId := 19, lastScan := 10400 } }

/-- A scan of one return. -/
def oneReturn (pos s h : Int) : Scan :=
  { exposure := 1, position := pos, snapshot := .zero, strain := 0, flags := .empty, removed := 0
    returns := [{ source := .a, xc := s, s := s, h := h, peak := 200, saturated := false, indication := .saturated, sample := none }] }

theorem test_crossing : (let t := (crossing.track (oneReturn 10500 0 5310000))
    ((t.1.trk.tracks.e0.lastS, t.1.trk.tracks.e0.rate, t.1.trk.tracks.e0.mergedDistance), (t.1.trk.tracks.e1.lastS, t.1.trk.tracks.e1.rate),
      (t.2.slots.e0.result, t.2.slots.e1.result))) = ((0, 10000, 500), (0, -10000), (.hit, .sharedHit)) := by decide +kernel
theorem test_retakenSlot : (let s : State := { crossing with trk := { crossing.trk with tracks := ⟨{ crossing.trk.tracks.e0 with state := .coasting, coasted := 1950 }, .empty, .empty, .empty⟩ } }
    let t := s.track (oneReturn 10500 300000 5310000)
    (t.2.slots.e0.result, t.2.slots.e0.ended, t.2.slots.e0.mergedWith, t.1.trk.tracks.e0.state)) =
      (.endedAndNew, some ⟨17, .coastedOut⟩, none, .tentative) := by decide +kernel
theorem test_excCloseReturned : (let s : State := { atMm 10520 crossing with span := { measuring.span with monitors := ⟨⟨some ⟨17, 10300, 4100, 10400⟩, none, none⟩, .closed, .closed, .closed⟩ } }
    let t := s.track (oneReturn 10500 0 5310000)
    (State.testMonitors t.2 t.1).rep.events.items.map fun e => (e.position, e.body)) =
      [(10520, .excClose .stagger .n0 17 .returned 10300 4100 10400 200)] := by decide +kernel
theorem test_newTrack : (let t := (measuring.track (oneReturn 100 0 5310000))
    (t.1.trk.tracks.e0.state, t.1.trk.tracks.e0.hits, t.2.slots.e0.result)) = (.tentative, 1, .new) := by decide +kernel

/-! ### Queues and attention (spec 9.6) -/

/-- Records with the numbers from `n` upward. -/
def records (n : Nat) : Nat → List SpanRec
  | 0 => []
  | k + 1 => { openAt 0 with seq := BitVec.ofNat 32 n } :: records (n + 1) k

/-- Spec 9.6 before span 89 closes. -/
def fullQueue : State :=
  { measuring with
    link := { measuring.link with tx := some ⟨0x62, []⟩ }
    span := { measuring.span with seq := 88 }
    rep := { Report.initial with spans := { items := records 57 32, lastStored := 88, lost := 0, inFlight := true } } }

theorem test_spanLost : (let t := fullQueue.closeSpan .mast 500 .mk1
    (t.rep.spans.lost, t.rep.spans.items.length, t.rep.lossCause, (t.rep.record .queueLoss).value)) = (1, 32, true, some ⟨0, 89⟩) := by
  decide +kernel
theorem test_fetchSpans : (let t := after (exec (.fetchSpans [3]) fullQueue)
    (t.rep.spans.items.map SpanRec.seq).take 3 = [57, 61, 62] ∧ t.link.slot.map (fun f => f.payload.take 4) = some [0, 3, 28, 1]) := by
  decide +kernel
theorem test_ackAttention : (let t := after (exec (.ackAttention [5]) { fullQueue with rep := { fullQueue.rep with lossCause := true } })
    (t.rep.lossCause, t.rep.pulseDue, t.rep.attn, t.link.slot)) = (false, some 100, false, some ⟨0x8C, [0, 1]⟩) := by decide +kernel
theorem test_reportLands : (let t := after (exec .hostTxFrameDone fullQueue)
    (t.rep.spans.items.map SpanRec.seq).take 1 = [58] ∧ t.rep.spans.inFlight = false) := by decide +kernel
theorem test_streaming : (let t := after (exec .hostTxFrameDone
      { fullQueue with cfg := { fullQueue.cfg with reporting := { fullQueue.cfg.reporting with streaming := true } } })
    t.rep.spans.inFlight = true ∧ t.link.tx.map Frame.kind = some 0x62) := by decide +kernel
theorem test_fault_marks : (let v : FaultValue := ⟨0, 12⟩
    let t := (measuring.raise .attStale v).raise .attStale v
    (t.rep.events.items.length, (t.rep.record .attStale).count, t.rep.faultCause)) = (1, 2, true) := by decide +kernel
theorem test_clearFaults : (let t := after (exec (.clearFaults []) (measuring.raise .attStale ⟨0, 12⟩))
    ((t.rep.record .attStale).count, (t.rep.record .attStale).spanMark, t.link.tx)) =
      (0, true, some ⟨0x8E, [0, 0, 0, 0, 0, 1, 0, 0, 0, 0, 0, 0, 0]⟩) := by decide +kernel
theorem test_readLive : (let t := after (exec (.readLive [7, 9]) { idle with live := { idle.live with tracks := Four.const { LiveTrack.zero with fresh := true } } })
    (t.link.tx.map (fun f => f.payload.take 4), t.live.tracks.e3.fresh, t.live.tracks.e2.fresh)) =
      (some [0, 7, 1, 1], false, true) := by decide +kernel
theorem test_tick : step State.reset = .next { State.reset with clock := 1 } := rfl
theorem test_noWords : decodeTableWord 32 0 = none := rfl

/-! ### Witnesses: for each statement with hypotheses, states and operands that meet them, clause by clause -/

/-- A byte that a number gives. -/
theorem byte_of_int (v : Int) (b : Byte) (h : b = BitVec.ofInt 8 v) : (b.toNat : Int) = v % 256 := by
  subst h
  rw [BitVec.toNat_ofInt]
  have := Int.emod_nonneg v (b := 256) (by decide)
  omega

/-- A state that meets the bounds with a command waiting. -/
def busy : State := { fullQueue with pending := [.status []] }

theorem witness_StepRunsTheFrontCommand : State.reset.pending = [] := rfl
theorem witness_StepKeepsTheBounds : busy.Bounded ∧ ∃ t, step busy = .next t := by
  refine ⟨⟨?_, ?_, ?_, ?_, ?_, ?_, ?_, ?_, ?_⟩, _, rfl⟩
  · unfold State.tableBounded; decide
  · unfold State.queuesBounded; decide +kernel
  · unfold State.flightHeld; decide +kernel
  · unfold State.phaseBounded; decide
  · unfold State.headsConsistent HeadLink.consistent; decide +kernel
  · unfold State.speedBounded within; decide
  · unfold State.accumulatorFits within; decide
  · unfold State.faultsComplete; decide +kernel
  · unfold State.countsFit; decide +kernel
theorem witness_StepKeepsTheExposureOutputs : inWindow.exposureSafe ∧ ∃ t, step inWindow = .next t := by
  refine ⟨?_, _, rfl⟩
  unfold State.exposureSafe State.outputsFollowExposure State.quietWhenStopped
  decide +kernel
theorem witness_StepKeepsSpansToTheRun : measuring.spansFollowRun ∧ ∃ t, step measuring = .next t := by
  refine ⟨⟨?_, ?_, ?_, ?_⟩, _, rfl⟩
  · decide +kernel
  · decide +kernel
  · decide +kernel
  · intro _ k; cases k <;> rfl
theorem witness_StepKeepsWireIdsDistinct : crossing.trk.idsDistinct ∧ ∃ t, step crossing = .next t := by
  refine ⟨⟨by decide, ?_, ?_, ?_⟩, _, rfl⟩
  · intro k; cases k
    · intro _; exact ⟨17, rfl, by decide, by decide⟩
    · intro _; exact ⟨18, rfl, by decide, by decide⟩
    · intro h; exact absurd h (by decide)
    · intro h; exact absurd h (by decide)
  · intro k; cases k <;> decide
  · intro j k; cases j <;> cases k <;> decide

/-- Two records waiting, with a gap between them. -/
def gapped : State :=
  { measuring with
    span := { measuring.span with seq := 60 }
    rep := { Report.initial with
             spans := { items := [{ openAt 0 with seq := 57 }, { openAt 0 with seq := 59, gap := 1 }], lastStored := 59
                        lost := 1, inFlight := false } } }

theorem witness_StepKeepsTheGapsAccounting : gapped.gapsAccount ∧ ∃ t, step gapped = .next t := by
  refine ⟨⟨⟨rfl, ?_, ?_⟩, ⟨rfl, ?_, ?_⟩⟩, _, rfl⟩
  · intro n x y h; exact absurd h (by simp [gapped, Report.initial])
  · intro x h; exact absurd h (by simp [gapped, Report.initial])
  · intro n x y hx hy
    match n with
    | 0 =>
      have h1 : ({ openAt 0 with seq := 57 } : SpanRec) = x := Option.some.inj hx
      have h2 : ({ openAt 0 with seq := 59, gap := 1 } : SpanRec) = y := Option.some.inj hy
      subst h1 h2; rfl
    | n + 1 => exact absurd hy (by simp [gapped, SpanQueue.waiting])
  · intro x hx
    have h1 : ({ openAt 0 with seq := 59, gap := 1 } : SpanRec) = x := Option.some.inj hx
    subst h1; rfl
theorem witness_StepKeepsMarkersIdleInStopped : idle.markersIdleWhenStopped ∧ idle.run.state = .stopped ∧ ∃ t, step idle = .next t := by
  refine ⟨fun _ => ⟨?_, rfl⟩, rfl, _, rfl⟩
  intro m; cases m <;> rfl
theorem witness_AttentionFollowsItsCauses : ∃ t, exec (.ackAttention [31]) idle = .next t := ⟨_, rfl⟩

theorem witness_HostRequestBytesDecodeBack : (Instr.exposeOnce (List.replicate 1024 1) true).wellFormed = true
    ∧ frameOfRequest (.exposeOnce (List.replicate 1024 1) true) = some ⟨0x07, List.replicate 1024 1⟩
    ∧ ∀ p r, Instr.exposeOnce (List.replicate 1024 1) true = .exposeOnce p r → r = true := by
  refine ⟨by decide +kernel, rfl, ?_⟩
  intro p r h
  injection h with _ h
  exact h.symm
theorem witness_BlocksAndReturnsReadBack :
    { CalFields.initial with lA := 2000000, zeroVL := -8388607, alpha := 50, serial := 4294967295 }.inRange
      ∧ ReturnsFrame.inRange ⟨255, [⟨-32768, 30000, 20000, 255, true, 0⟩, ⟨32767, 0, 0, 0, false, 1⟩]⟩ := by
  unfold CalFields.inRange ReturnsFrame.inRange within; decide +kernel
theorem witness_RecordsHaveTheirLayoutLength : 7 < 8 := by decide

theorem witness_FaultsAreCountedByTheirClass : idle.rep.faults.length = 23 ∧ FaultCode.headLate.class = .notice
    ∧ FaultCode.attStale.class = .degrading ∧ ((measuring.raise .attStale ⟨0, 0⟩).rep.record .attStale).spanMark = true
    ∧ (measuring.rep.record .attStale).spanMark = false ∧ (idle.rep.record .attStale).runMark = false
    ∧ { measuring.rep.events with items := List.replicate 63 ⟨1, 0, 0, 0, .overlapBegin⟩ }.items.length < 64
    ∧ 64 ≤ { measuring.rep.events with items := List.replicate 64 ⟨1, 0, 0, 0, .overlapBegin⟩ }.items.length
    ∧ FaultCode.odoLost.class = .halting ∧ idle.run.state = .stopped ∧ measuring.run.state = .measuring
    ∧ measuring.span.opened = some (openAt 0) ∧ inWindow.expo.state = .window ∧ inWindow.run.state = .armed := by decide +kernel

/-- A report with queues of a given length. -/
def filled (spans events : Nat) : Report :=
  { Report.initial with
    spans := { Report.initial.spans with items := records 1 spans }
    events := { Report.initial.events with items := List.replicate events ⟨1, 0, 0, 0, .overlapBegin⟩ } }

theorem witness_QueuesStoreOrCountTheLoss : (filled 31 63).faults.length = 23 ∧ (filled 31 63).spans.items.length < 32
    ∧ (filled 31 63).events.items.length < 64 ∧ 32 ≤ (filled 32 64).spans.items.length
    ∧ 64 ≤ (filled 32 64).events.items.length := by decide +kernel

/-- A store in progress. -/
def storing : State := { idle with cal := { idle.cal with storing := true } }

theorem witness_PowerOnResetStartsUp : idle.cal.storing = false ∧ storing.cal.storing = true := ⟨rfl, rfl⟩

/-- The start-up with a block. -/
def loading (block : List Byte) : State := { State.reset with cal := { State.reset.cal with block := block } }

/-- A block whose fields are zero and whose CRC-32 matches. -/
def zeroBlock : List Byte := List.replicate 59 0 ++ toBytes 4 (crc32 (List.replicate 59 0)).toNat

theorem witness_CalLoadOpensTheLink : State.reset.link.handling = .starting ∧ State.reset.link.tx = none
    ∧ (CalFields.initial.inRange
      ∧ State.reset.cal.block = CalFields.initial.payload ++ toBytes 4 (crc32 CalFields.initial.payload).toNat)
    ∧ (loading (List.replicate 63 0)).cal.block.drop 59 ≠
        toBytes 4 (crc32 ((loading (List.replicate 63 0)).cal.block.take 59)).toNat
    ∧ ((List.replicate 59 (0 : Byte)).length = 59 ∧ (loading zeroBlock).cal.block = zeroBlock
      ∧ firstFails 0 (calRanges (List.replicate 59 0)) 0)
    ∧ idle.link.handling ≠ .starting := by
  refine ⟨rfl, rfl, ⟨by unfold CalFields.inRange within; decide +kernel, by decide +kernel⟩, by decide +kernel,
    ⟨rfl, rfl, .inl ⟨?_, rfl⟩⟩, by decide⟩
  unfold within; decide

/-- RESET_PART's reply in transmission. -/
def closing : State := { armed with link := { armed.link with handling := .closing, tx := some ⟨0x93, [0]⟩ } }

/-- Both ARM frames, or one alone, in transmission. -/
def leaving (a b : Option ArmFrame) (s : State) : State :=
  { s with heads := ⟨{ s.heads.a with arm := a }, { s.heads.b with arm := b }⟩ }

/-- A report in transmission while RESET_PART's reply waits. -/
def closingLate (kind : Byte) : State :=
  { fullQueue with link := { fullQueue.link with handling := .closing, tx := some ⟨kind, []⟩, slot := some ⟨0x93, [0]⟩ } }

theorem witness_ResetPartResetsAfterItsReply : idle.takesRequests
    ∧ ((closingLate 0x61).link.handling = .closing ∧ (closingLate 0x61).link.slot = some ⟨0x93, [0]⟩
      ∧ (closingLate 0x61).link.tx = some ⟨0x61, []⟩ ∧ (0x61 : Byte) ≠ 0x62
      ∧ (closingLate 0x62).link.tx = some ⟨0x62, []⟩ ∧ (closingLate 0x62).rep.spans.inFlight = true)
    ∧ (closing.link.handling = .closing ∧ closing.link.slot = none ∧ closing.link.tx = some ⟨0x93, [0]⟩
      ∧ (⟨0x93, [0]⟩ : Frame).kind ≠ 0x62 ∧ closing.heads.a.arm = none ∧ closing.heads.b.arm = none)
    ∧ (leaving none (some ⟨1, 40⟩) closing).heads.b.arm ≠ none
    ∧ (let s := leaving none (some ⟨1, 40⟩) { closing with link := { closing.link with resetDue := true } }
       s.link.resetDue = true ∧ (s.heads.get .b).arm = some ⟨1, 40⟩ ∧ ∀ g : Head, g ≠ .b → (s.heads.get g).arm = none) := by
  refine ⟨idle_takes, by decide, by decide, by decide, rfl, rfl, ?_⟩
  intro g hg
  cases g
  · rfl
  · exact absurd rfl hg

theorem witness_FramesOutsideOpenAreDiscarded : frameOfRequest (.exposeOnce [] true) = some ⟨0x07, []⟩
    ∧ State.reset.link.handling = .starting ∧ closing.link.handling = .closing ∧ inBlank.link.handling = .heldForStop
    ∧ { idle with link := { idle.link with handling := .heldForTemperature } }.link.handling = .heldForTemperature
    ∧ { idle with link := { idle.link with slot := some ⟨0x81, []⟩ } }.link.slot ≠ none ∧ idle.link.handling = .openForRequests := by
  decide
theorem witness_RequestsAreRefusedInTheirOrder : frameOfRequest (.setGroupLine [1]) = some ⟨0x03, [5, 1]⟩
    ∧ (Instr.setGroupLine [1]).requestLength = some 14 ∧ (Instr.setGroupLine [1]).operandBytes.length ≠ 14
    ∧ (idle.link.handling = .openForRequests ∧ idle.link.slot = none)
    ∧ ((Instr.startRun [0, 0, 0, 0]).operandBytes.length = 4 ∧ storing.cal.storing = true
      ∧ ∀ p, Instr.startRun [0, 0, 0, 0] ≠ .status p)
    ∧ (armed.cal.storing = false ∧ ¬ (Instr.startRun [0, 0, 0, 0]).takenIn armed)
    ∧ ¬ (Instr.exposeOnce [] true).takenIn armed
    ∧ ((0x14 : Byte) ≠ 0x03 ∧ ([8] : List Byte) ≠ [] ∧ storing.link.slot = none) := by
  refine ⟨rfl, rfl, by decide, ⟨rfl, rfl⟩, ⟨rfl, rfl, fun p h => by cases h⟩, ⟨rfl, ?_⟩, ?_, by decide⟩
  · unfold Instr.takenIn; decide
  · unfold Instr.takenIn; decide
theorem witness_IdentifyAndStatusAnswer : idle.takesRequests ∧ storing.link.handling = .openForRequests
    ∧ storing.link.slot = none ∧ storing.rep.faults.length = 23 := ⟨idle_takes, by decide⟩
theorem witness_HostReceiveErrorsAreCounted :
    ({ idle with link := { idle.link with receiver := .inFrame, errGap := 65535 } }.link.receiver = .inFrame
      ∧ idle.link.handling ≠ .starting) ∧ idle.link.receiver = .hunting ∧ State.reset.link.handling = .starting := by decide
theorem witness_FrameEndsFreeTheTransmitter : idle.link.tx = none
    ∧ (fullQueue.link.tx = some ⟨0x62, []⟩ ∧ fullQueue.link.handling ≠ .closing ∧ fullQueue.rep.spans.inFlight = true)
    ∧ ({ idle with link := { idle.link with tx := some ⟨0x81, [0]⟩ } }.link.tx = some ⟨0x81, [0]⟩ ∧ (0x81 : Byte) ≠ 0x62) := by
  decide

/-- Streaming on, with queues of a given length. -/
def streaming (spans events : Nat) (flying : Bool) : State :=
  { measuring with
    cfg := { measuring.cfg with reporting := { measuring.cfg.reporting with streaming := true } }
    rep := { filled spans events with spans := { (filled spans events).spans with inFlight := flying } } }

theorem witness_ArbiterChoosesInOrder : fullQueue.link.tx ≠ none ∧ State.reset.link.handling = .starting
    ∧ (idle.link.tx = none ∧ idle.link.handling ≠ .starting ∧ idle.link.handling ≠ .closing
      ∧ { idle with link := { idle.link with readyPending := true } }.link.readyPending = true)
    ∧ ({ idle with link := { idle.link with slot := some ⟨0x81, []⟩ } }.link.slot = some ⟨0x81, []⟩
      ∧ idle.link.readyPending = false)
    ∧ { closing with link := { closing.link with tx := none } }.link.slot = none
    ∧ ((streaming 2 64 false).cfg.reporting.streaming = true ∧ (streaming 2 64 false).rep.events.items ≠ []
      ∧ (streaming 2 64 false).link.slot = none)
    ∧ ((streaming 2 0 false).rep.events.items = [] ∧ (streaming 2 0 false).rep.spans.items ≠ []
      ∧ (streaming 2 0 false).rep.spans.inFlight = false)
    ∧ (streaming 2 0 true).rep.spans.inFlight = true ∧ idle.cfg.reporting.streaming = false := by decide +kernel

/-! #### Groups -/

theorem exposure_sets : { ExposureSet.initial with pitch := 1000, period := 1, pulses := 32, onTime := 255, stuckWindow := 500 }.inRange
    ∧ (List.replicate 17 (0 : Byte)).length = 17 ∧ ∀ e : ExposureSet, e.inRange → List.replicate 17 0 ≠ e.payload := by
  refine ⟨by unfold ExposureSet.inRange; decide, rfl, ?_⟩
  intro e h hb
  have h5 := congrArg (fun l => l[5]?) hb
  simp [ExposureSet.payload, toBytes, -BitVec.ofInt_natCast] at h5
  have := byte_of_int _ _ h5
  have := h.2.2.1
  simp at *
  omega
theorem line_sets : { LineSet.initial with spanMin := 50, spanMax := 200, wiresPerLine := 2 }.inRange
    ∧ (List.replicate 14 (0 : Byte)).length = 14 ∧ ∀ l : LineSet, l.inRange → List.replicate 14 0 ≠ l.payload := by
  refine ⟨by unfold LineSet.inRange; decide, rfl, ?_⟩
  intro l h hb
  have h5 := congrArg (fun b => b[13]?) hb
  simp [LineSet.payload, toBytes, -BitVec.ofInt_natCast] at h5
  have := byte_of_int _ _ h5
  have := h.2.2.2.2.2.2.2.2.2.1
  simp at *
  omega
theorem odometry_and_attitude_sets : { OdometrySet.initial with nmPerCount := 2000000, reverseDistance := 100 }.inRange
    ∧ (∀ o : OdometrySet, o.inRange → List.replicate 8 2 ≠ o.payload) ∧ AttitudeSet.inRange ⟨512, 50⟩
    ∧ ∀ a : AttitudeSet, a.inRange → List.replicate 3 0 ≠ a.payload := by
  refine ⟨by unfold OdometrySet.inRange; decide, ?_, by unfold AttitudeSet.inRange; decide, ?_⟩
  · intro o _ hb
    have h4 := congrArg (fun l => l[4]?) hb
    cases ho : o.inverted <;> simp [OdometrySet.payload, toBytes, flagByte, ho] at h4
  · intro a h hb
    have h2 := congrArg (fun l => l[2]?) hb
    simp [AttitudeSet.payload, toBytes, -BitVec.ofInt_natCast] at h2
    have := byte_of_int _ _ h2
    have := h.2.1
    simp at *
    omega
theorem marker_sets : { MarkerSet.initial with qualify := ⟨2000, 0, 2000, 0⟩, mast := .both }.inRange
    ∧ ∀ m : MarkerSet, m.inRange → List.replicate 15 2 ≠ m.payload := by
  refine ⟨by unfold MarkerSet.inRange; decide, ?_⟩
  intro m _ hb
  have h0 := congrArg (fun l => l[0]?) hb
  cases hm : m.debounce.e0 <;> simp [MarkerSet.payload, flagByte, hm] at h0
theorem tracking_sets : { TrackingSet.initial with windowLow := 7499, windowHigh := 7500, confirmHits := 16 }.inRange
    ∧ ∀ t : TrackingSet, t.inRange → List.replicate 19 0 ≠ t.payload := by
  refine ⟨by unfold TrackingSet.inRange; decide, ?_⟩
  intro t h hb
  have h6 := congrArg (fun l => l[6]?) hb
  simp [TrackingSet.payload, toBytes, -BitVec.ofInt_natCast] at h6
  have := byte_of_int _ _ h6
  have := h.2.2.2.2.2.2.1
  simp at *
  omega
theorem wire_type_sets : wireTypesInRange ⟨⟨8000, 15999, 65535⟩, ⟨4000, 1, 0⟩, ⟨4000, 1, 0⟩, ⟨4000, 1, 0⟩⟩
    ∧ ∀ w : Four WireType, wireTypesInRange w → List.replicate 24 0 ≠ wireTypesPayload w := by
  refine ⟨by unfold wireTypesInRange WireType.inRange; decide, ?_⟩
  intro w h hb
  have h0 := congrArg (fun l => l[0]?) hb
  have h1 := congrArg (fun l => l[1]?) hb
  simp [wireTypesPayload, WireType.payload, toBytes, -BitVec.ofInt_natCast] at h0 h1
  have := byte_of_int _ _ h0
  have := byte_of_int _ _ h1
  have := h.1.1
  simp at *
  omega
/-- A payload that fails in its relation alone is no set within the ranges and relations. -/
theorem longOnTime_refused : longOnTime.length = 17 ∧ ∀ e : ExposureSet, e.inRange → longOnTime ≠ e.payload := by
  refine ⟨rfl, ?_⟩
  intro e h hb
  have h6 := congrArg (fun l => l[6]?) hb
  have h10 := congrArg (fun l => l[10]?) hb
  have h11 := congrArg (fun l => l[11]?) hb
  simp [longOnTime, ExposureSet.payload, toBytes, -BitVec.ofInt_natCast] at h6 h10 h11
  have := byte_of_int _ _ h6
  have := byte_of_int _ _ h10
  have := byte_of_int _ _ h11
  have := h.2.2.2.1
  have := h.2.2.2.2.2.2.1
  have := h.2.2.2.2.2.2.2.2.2.2.2
  simp at *
  omega
theorem witness_ExposureAndLineSetsAreTakenOrStaged : idle.takesRequests ∧ idle.run.state = .stopped
    ∧ armed.takesRequests ∧ armed.run.state ≠ .stopped
    ∧ (List.replicate 17 (0 : Byte)).length = 17 ∧ (∀ e : ExposureSet, e.inRange → List.replicate 17 0 ≠ e.payload)
    ∧ (∀ e : ExposureSet, e.inRange → longOnTime ≠ e.payload)
    ∧ ∀ l : LineSet, l.inRange → List.replicate 14 0 ≠ l.payload :=
  ⟨idle_takes, rfl, ⟨rfl, rfl, rfl⟩, by decide, rfl, exposure_sets.2.2, longOnTime_refused.2, line_sets.2.2⟩
theorem witness_SetsAreTakenInStopped : idle.takesRequests ∧ idle.run.state = .stopped
    ∧ (∀ o : OdometrySet, o.inRange → List.replicate 8 2 ≠ o.payload)
    ∧ (∀ a : AttitudeSet, a.inRange → List.replicate 3 0 ≠ a.payload)
    ∧ (∀ m : MarkerSet, m.inRange → List.replicate 15 2 ≠ m.payload)
    ∧ (∀ t : TrackingSet, t.inRange → List.replicate 19 0 ≠ t.payload)
    ∧ ∀ w : Four WireType, wireTypesInRange w → List.replicate 24 0 ≠ wireTypesPayload w :=
  ⟨idle_takes, rfl, odometry_and_attitude_sets.2.1, odometry_and_attitude_sets.2.2.2, marker_sets.2, tracking_sets.2,
    wire_type_sets.2⟩
theorem witness_ReportingSetIsTaken : armed.takesRequests ∧ { idle.cfg.reporting with spanMark := 32 }.inRange
    ∧ ∀ r : ReportingSet, r.inRange → List.replicate 3 0 ≠ r.payload := by
  refine ⟨⟨rfl, rfl, rfl⟩, by unfold ReportingSet.inRange; decide, ?_⟩
  intro r h hb
  have h1 := congrArg (fun l => l[1]?) hb
  simp [ReportingSet.payload, toBytes, -BitVec.ofInt_natCast] at h1
  have := byte_of_int _ _ h1
  have := h
  simp [ReportingSet.inRange] at *
  omega
theorem witness_GetGroupAnswersTheSets : idle.takesRequests ∧ 8 ≤ (8 : Byte).toNat := ⟨idle_takes, by decide⟩

/-! #### Runs and travel -/

theorem witness_StartRunStartsEveryBlock : idle.takesRequests ∧ idle.run.state = .stopped
    ∧ { idle.run with number := 65535 }.number ≤ 65535 ∧ within (-2147483647) 2147483647 (-2147483647)
    ∧ within (-2147483647) 2147483647 2147483647 := by
  refine ⟨idle_takes, rfl, by decide, ?_, ?_⟩ <;> (unfold within; decide)
theorem witness_StopRunEndsEveryBlock : armed.takesRequests ∧ armed.run.state ≠ .stopped ∧ armed.span.opened = none
    ∧ (measuring.takesRequests ∧ measuring.run.state ≠ .stopped ∧ measuring.span.opened = some (openAt 0)
      ∧ { measuring with rep := filled 32 64 }.rep.spans.items.length = 32 ∧ (filled 32 64).events.items.length = 64)
    ∧ armed.expo.state ≠ .blank ∧ { armed with expo := { armed.expo with state := .blank } }.expo.state = .blank :=
  ⟨⟨rfl, rfl, rfl⟩, by decide, rfl, ⟨⟨rfl, rfl, rfl⟩, by decide, rfl, by decide +kernel, by decide +kernel⟩, by decide, rfl⟩

/-- A run at a place on the line, with the furthest position 61,500 mm. -/
def travelling (r : RunState) (back : Bool) (nm : Int) : State :=
  { measuring with
    run := { measuring.run with state := r }
    span := if r = .measuring then measuring.span else SpanBuilder.initial
    odo := { measuring.odo with acc := nm, furthest := 61500, backTravel := back } }

/-- DISTANCE mode at a position, with the grid base at 0 and the pitch of 100 mm. -/
def gridAt (mm : Int) : State := atMm mm (armedIn .distance)

theorem witness_EncoderEdgesMoveTheAccumulator :
    (let t := after (exec (.encoderValidEdge .encA true) (travelling .measuring false 61500000000))
     t.pos = 61500 ∧ idle.run.state = .stopped)
      ∧ (gridAt 99).expo.gridBase + (gridAt 99).cfg.exposure.pitch > (gridAt 99).pos
      ∧ ((gridAt 200).run.state = .armed ∧ (gridAt 200).cfg.exposure.mode = .distance ∧ 199 < (gridAt 200).pos
        ∧ (gridAt 200).expo.gridBase + ((1 : Nat) + 1) * (gridAt 200).cfg.exposure.pitch ≤ (gridAt 200).pos
        ∧ (gridAt 200).pos < (gridAt 200).expo.gridBase + ((1 : Nat) + 2) * (gridAt 200).cfg.exposure.pitch) := by
  decide +kernel
theorem witness_TravelPausesAndResumesTheRun :
    (let s := travelling .measuring false 60500000000
     let t := after (exec (.encoderValidEdge .encB true) s)
     t.pos ≠ s.pos ∧ s.odo.backTravel = false ∧ t.pos < s.odo.furthest - (s.cfg.odometry.reverseDistance : Int)
       ∧ s.span.opened = some (openAt 0) ∧ s.rep.spans.items.length < 32)
      ∧ (let s := travelling .armed false 60500000000
         (after (exec (.encoderValidEdge .encB true) s)).pos = 60499 ∧ s.span.opened = none)
      ∧ (let s := travelling .paused true 61499999999
         let t := after (exec (.encoderValidEdge .encA true) s)
         t.pos ≠ s.pos ∧ s.odo.backTravel = true ∧ s.span.candidate = none ∧ s.odo.furthest ≤ t.pos)
      ∧ (let s := travelling .faulted false 60500000000
         let t := after (exec (.encoderValidEdge .encB true) s)
         t.pos ≠ s.pos ∧ t.pos < s.odo.furthest - (s.cfg.odometry.reverseDistance : Int))
      ∧ (let s := travelling .measuring false 60499000000
         s.pos < max s.odo.furthest s.pos - (s.cfg.odometry.reverseDistance : Int) ∧ s.odo.backTravel = false
           ∧ ¬ 60500 < max s.odo.furthest 60500 - (s.cfg.odometry.reverseDistance : Int))
      ∧ (let s := travelling .paused true 61500000000
         s.odo.backTravel = true ∧ s.odo.furthest ≤ s.pos ∧ (travelling .faulted true 61499000000).pos < s.odo.furthest) := by
  decide +kernel
theorem witness_PhaseErrorsAndOdometerTimers : idle.odo.phaseLevel ≠ 15
    ∧ { idle with odo := { idle.odo with phaseLevel := 15 } }.odo.phaseLevel = 15 ∧ idle.run.state = .stopped
    ∧ inWindow.run.state ≠ .stopped ∧ inWindow.run.state ≠ .faulted ∧ inWindow.expo.state = .window
    ∧ measuring.expo.state = .ready
    ∧ ∃ x xs, idle.odo.history = x :: xs :=
  ⟨by decide, rfl, rfl, by decide, by decide, rfl, rfl, 0, List.replicate 9 0, rfl⟩

/-! #### Exposures -/

theorem witness_TriggersAreTakenOrSkipped : inWindow.expo.state ≠ .ready
    ∧ ((armedIn .single).expo.state = .ready ∧ (leaving none (some ⟨1, 40⟩) (armedIn .single)).heads.b.arm ≠ none)
    ∧ ((armedIn .single).heads.a.arm = none ∧ (armedIn .single).heads.b.arm = none
      ∧ (armedIn .single).pins.rsvRdy = false)
    ∧ (List.replicate 4 (waiting 1 0) = waiting 1 0 :: List.replicate 3 (waiting 1 0)
      ∧ 4 ≤ (List.replicate 4 (waiting 1 0)).length)
    ∧ (List.replicate 3 (waiting 1 0)).length < 4
    ∧ { ExposureSet.initial with mode := .timed }.mode = .timed :=
  ⟨by decide, ⟨rfl, by decide⟩, ⟨rfl, rfl, rfl⟩, ⟨rfl, by decide⟩, by decide, rfl⟩
theorem witness_ExposeOnceTakesOrSkipsATrigger : (armedIn .single).takesRequests ∧ (armedIn .single).run.state = .armed
    ∧ (armedIn .single).cfg.exposure.mode = .single ∧ (armedIn .single).expo.state = .ready
    ∧ ((armedIn .single).heads.a.arm = none ∧ (armedIn .single).heads.b.arm = none)
    ∧ (List.replicate 3 (waiting 1 0)).length < 4 ∧ inWindow.expo.state ≠ .ready
    ∧ (leaving none (some ⟨1, 40⟩) (armedIn .single)).heads.b.arm ≠ none
    ∧ (List.replicate 4 (waiting 1 0) = waiting 1 0 :: List.replicate 3 (waiting 1 0)
      ∧ 4 ≤ (List.replicate 4 (waiting 1 0)).length) :=
  ⟨armed_takes _, rfl, rfl, rfl, ⟨rfl, rfl⟩, by decide, by decide, by decide, rfl, by decide⟩

/-- The last ARM frame of exposure 1 leaves head B. -/
def arming : State := leaving none (some ⟨1, 40⟩) { inWindow with expo := { armed.expo with state := .arming, counter := 1 } }

/-- Fresh readings of every attitude channel. -/
def sampled : Attitude :=
  { Attitude.initial with vl := ⟨some ⟨5, 0⟩, false⟩, vr := ⟨some ⟨5, 0⟩, false⟩, lat := ⟨some ⟨5, 0⟩, false⟩ }

theorem witness_LastArmFrameOpensTheWindow : (idle.heads.get .a).arm = none
    ∧ ((arming.heads.get .b).arm = some ⟨1, 40⟩ ∧ ¬ (∃ g : Head, g ≠ .b ∧ (arming.heads.get g).arm ≠ none)
      ∧ arming.link.resetDue = false ∧ arming.expo.state = .arming)
    ∧ (∃ g : Head, g ≠ .b ∧ ((leaving (some ⟨1, 40⟩) (some ⟨1, 40⟩) arming).heads.get g).arm ≠ none)
    ∧ (leaving none (some ⟨1, 40⟩) idle).expo.state ≠ .arming
    ∧ (judgeSnapshot arming.cal.work arming.cfg.attitude.maxAge 10 sampled).ageCase = .fresh
    ∧ (judgeSnapshot arming.cal.work arming.cfg.attitude.maxAge 10001 sampled).ageCase = .stale := by
  refine ⟨rfl, ⟨rfl, ?_, rfl, rfl⟩, ⟨.a, by decide, by decide⟩, by decide, by decide +kernel, by decide +kernel⟩
  rintro ⟨g, hg, h⟩
  cases g
  · exact h rfl
  · exact hg rfl
theorem witness_BurstAndStuckTimerEndTheWindow : idle.expo.burst = none ∧ idle.expo.stuckDue = none
    ∧ inWindow.expo.burst = some ⟨4, true, 80⟩ ∧ (⟨4, true, 80⟩ : Burst).on = true
    ∧ ((⟨2, false, 200⟩ : Burst).on = false ∧ 2 ≤ (⟨2, false, 200⟩ : Burst).left)
    ∧ (⟨1, false, 800⟩ : Burst).left ≤ 1 ∧ inWindow.expo.stuckDue = some 240 := by decide
theorem witness_AcknowledgesBlankOutAndGuard : idle.expo.ack = none
    ∧ inWindow.expo.ack = some ⟨1, 4, 0, none⟩ ∧ (⟨1, 4, 4, some 260⟩ : AckCount).due = some 260
    ∧ (⟨1, 4, 4, some 260⟩ : AckCount).count = (⟨1, 4, 4, some 260⟩ : AckCount).pulses
    ∧ (⟨1, 4, 5, some 260⟩ : AckCount).count ≠ (⟨1, 4, 5, some 260⟩ : AckCount).pulses
    ∧ (idle.expo.blankDue = none ∧ idle.expo.guardDue = none)
    ∧ (inBlank.expo.blankDue = some 1200 ∧ inBlank.link.handling = .heldForStop)
    ∧ { inBlank with link := idle.link }.link.handling ≠ .heldForStop ∧ inBlank.expo.guardDue = some 200 := by decide
theorem witness_TriggerInputsTrigger : { idle with expo := { idle.expo with trigFilter := ⟨some true, none⟩ } }.expo.trigFilter.due = none
    ∧ idle.expo.trigFilter.due = some 8 ∧ ((⟨some true, some 8⟩ : Filter).accepted = some true ∧ idle.pins.trigIn = false)
    ∧ ((armedIn .external).run.state = .armed ∧ (armedIn .external).cfg.exposure.mode = .external)
    ∧ idle.expo.periodDue = none
    ∧ { armedIn .timed with expo := { armed.expo with periodDue := some 80000 } }.expo.periodDue = some 80000
    ∧ (armedIn .timed).cfg.exposure.mode = .timed := by decide

/-! #### Heads, scans and wires -/

theorem witness_ReturnsFramesAreUsedOrLate : ReturnsFrame.inRange ⟨41, []⟩ ∧ (∀ e ∈ idle.table, e.exposure.setWidth 8 ≠ (41 : Byte))
    ∧ entryWithTag 41 lagging.table = some { waiting 297 4000840 with delivered := ⟨true, false⟩ }
    ∧ ({ waiting 297 4000840 with delivered := ⟨true, false⟩ }.phase = .waiting
      ∧ { waiting 297 4000840 with delivered := ⟨true, false⟩ }.delivered.get .b = false
      ∧ { waiting 297 4000840 with delivered := ⟨true, false⟩ }.delivered.get .a = true)
    ∧ checkReturns [1, 7] = .failed .count := by
  refine ⟨by unfold ReturnsFrame.inRange within; decide, ?_, by decide +kernel, by decide, by decide⟩
  intro e h; exact absurd h (by simp [idle, State.reset, State.startUp])
theorem witness_HeadFrameErrorsAreDiscarded :
    ({ idle with heads := ⟨{ idle.heads.a with receiver := .inFrame }, idle.heads.b⟩ }.heads.get .a).receiver = .inFrame
    ∧ (idle.heads.get .a).receiver = .hunting ∧ (0 : BitVec 16) ≠ crc16 (toBytes 2 (0 : Nat) ++ [0x41])
    ∧ (0x40 : Byte) ≠ 0x41 ∧ 6 < (7 : Byte).toNat ∧ (6 : Byte).toNat ≤ 6 ∧ ([] : List Byte).length ≠ 8 * (1 : Byte).toNat
    ∧ 30000 < natOfBytes (([0, 0, 0x31, 0x75, 0, 0, 0, 0].drop (8 * 0 + 2)).take 2)
    ∧ natOfBytes (([0, 0, 0x30, 0x75, 0x20, 0x4E, 0, 0].drop (8 * 0 + 2)).take 2) ≤ 30000
    ∧ natOfBytes (([0, 0, 0x30, 0x75, 0x20, 0x4E, 0, 0].drop (8 * 0 + 4)).take 2) ≤ 20000 := by decide +kernel
theorem witness_HeadTimeoutCountsTheSilent : (∀ e ∈ idle.table, e.exposure.setWidth 8 ≠ (41 : Byte))
    ∧ (entryWithTag 43 lagging.table = some { waiting 299 0 with windowEnd := none }
      ∧ { waiting 299 0 with windowEnd := none }.windowEnd = none)
    ∧ (entryWithTag 41 lagging.table = some { waiting 297 4000840 with delivered := ⟨true, false⟩ }
      ∧ { waiting 297 4000840 with delivered := ⟨true, false⟩ }.phase = .waiting
      ∧ { waiting 297 4000840 with delivered := ⟨true, false⟩ }.windowEnd = some 4000840)
    ∧ (let s := { lagging with heads := ⟨{ lagging.heads.a with live := false, silence := 16 }, { lagging.heads.b with silence := 15 }⟩ }
       s.heads.b.live = true ∧ 15 ≤ s.heads.b.silence ∧ s.heads.a.live = false ∧ s.run.state = .armed) := by
  refine ⟨?_, by decide +kernel, by decide +kernel, by decide⟩
  intro e h; exact absurd h (by simp [idle, State.reset, State.startUp])
theorem witness_ScansAreDeliveredInOrder :
    (lagging.table.take 1).getLast? = some { waiting 297 4000840 with delivered := ⟨true, false⟩ } ∧ idle.run.state ≠ .armed
    ∧ idle.run.state ≠ .measuring := by decide +kernel
theorem witness_ReturnsReachTheTrackFrame : (65536 : Int) ≠ 0 ∧ rounds (-1) 2 (-1) ∧ rounds 1 (-2) (-1) ∧ ¬ rounds 1 2 0
    ∧ { waiting 1 0 with reversed := true }.reversed = true := by
  unfold rounds; decide

/-- Two returns of head A that one return of head B could join. -/
def contested : Entry :=
  { waiting 1 0 with returnsA := [banded 0 12450 150 400, banded 1 12450 170 402], returnsB := [banded 0 12450 190 403] }

theorem witness_HeadReturnsAreMergedAndCut :
    (let pairs := candidatePairs contested (contested.returnsA.map (placeReturn .initial contested .a))
      (contested.returnsB.map (placeReturn .initial contested .b))
     pairs.map (fun p => p.a.place) = [1, 0] ∧ (takePairs [] [] pairs).map (fun p => p.a.place) = [1])
      ∧ (let e := { waiting 1 0 with returnsA := (List.range 6).map fun n => banded n 12450 150 (-4000 + n)
                                     returnsB := (List.range 6).map fun n => banded n 12450 (150 + n) (4000 + n) }
         (returnList .initial e).2 = 4 ∧ (returnList .initial e).1.length = 8) := by decide +kernel
theorem witness_WearSamplesFollowTheirCase : Groups.initial.wireTypeInForce.inRange ∧ returnOfB.saturated = false
    ∧ (2 * 6000 ≤ 12000 ∧ 11999 < 2 * Groups.initial.wireTypeInForce.radius)
    ∧ (499 < Groups.initial.tracking.wearResolution ∧ Groups.initial.tracking.wearResolution ≤ 500) := by
  unfold WireType.inRange; decide +kernel
theorem witness_ReturnsAreAssignedToTracks :
    (let m := matchScan .initial false crossing.trk.tracks (oneReturn 10500 0 5310000)
     (m.tracks.get .n0).mergedWith = some .n1 ∧ m.indexed.length = 1
       ∧ (m.assigned.get .n0).map Assigned.joined = some false ∧ (m.assigned.get .n1).map Assigned.joined = some true) := by
  decide +kernel

/-- Two wires long merged, a TENTATIVE track one hit short and a wire at the end of its coasting. -/
def crowded : State :=
  { crossing with
    trk := { crossing.trk with
             tracks := ⟨{ crossing.trk.tracks.e0 with mergedDistance := 1450 }, crossing.trk.tracks.e1,
                        { Track.empty with state := .tentative, lastS := 300000, lastH := 5310000, lastHit := 10400, hits := 3 },
                        { Track.empty with state := .coasting, wireId := some 3, lastS := -300000, lastH := 5310000
                                           lastHit := 8400, coasted := 1950 }⟩ } }

/-- A scan of several returns. -/
def returnsAt (pos : Int) (ss : List Int) : Scan :=
  { oneReturn pos 0 0 with
    returns := ss.map fun s =>
      { source := .a, xc := s, s := s, h := 5310000, peak := 200, saturated := false, indication := .saturated, sample := none } }

theorem witness_TracksFollowTheirHits :
    (let t := crossing.track (oneReturn 10500 0 5310000)
     t.2.slots.e0.result = .hit ∧ t.2.slots.e1.result = .sharedHit ∧ t.2.slots.e2.result = .none)
      ∧ (crossing.track (oneReturn 10500 0 9000000)).2.slots.e0.result = .miss
      ∧ (measuring.track (oneReturn 100 0 5310000)).2.slots.e0.result = .new
      ∧ (let t := crowded.track (returnsAt 10500 [0, 150000, 300000])
         t.2.slots.e1.result = .ended ∧ t.2.slots.e3.result = .endedAndNew
           ∧ t.2.slots.e1.ended.map Ending.reason = some .duplicate ∧ crowded.trk.tracks.e1.state ≠ .free
           ∧ ((matchScan crowded.cfg.tracking false crowded.trk.tracks (returnsAt 10500 [0, 150000, 300000])).assigned.e0).isSome)
      ∧ (List.replicate 3 (⟨11000, 1000, 917, 0⟩ : WearSample)).length = 3 := by decide +kernel
theorem witness_ScansConfirmStartAndEndTracks :
    (let t := crowded.track (returnsAt 10500 [0, 150000, 200000, 300000])
     (t.2.slots.map SlotOutcome.confirmed = ⟨false, false, true, false⟩ ∧ t.1.trk.tracks.e2.wireId = some 19)
       ∧ t.2.slots.e1.ended = some ⟨18, .duplicate⟩ ∧ t.2.slots.e3.ended = some ⟨3, .coastedOut⟩
       ∧ t.1.trk.tracks.e3.state = .tentative ∧ (t.1.rep.record .trackSlotsFull).count = 1
       ∧ t.1.rep.events.items.length = 3)
      ∧ (crowded.track (returnsAt 10500 [0, 300000])).1.trk.tracks.e3 = .empty
      ∧ (crossing.track (returnsAt 10500 [0])).1.trk.tracks.e0.mergedDistance = 500 := by decide +kernel

/-! #### Spans -/

/-- A span from 0 with the spans' limits of spec 7.1. -/
def limited : SpanRec := { openAt 0 with spanMin := 15, spanMax := 120 }

/-- A candidate at 110 m, in a run state and at a position. -/
def pendingAt (r : RunState) (opened : Option SpanRec) (due : Bool) (mm : Int) : State :=
  atMm mm
    { measuring with
      run := { measuring.run with state := r }
      span := { measuring.span with
                opened := opened, candidate := some ⟨110000, .mk1, due⟩, provisional := some (.startingAt 110000) } }

theorem witness_SpansOpenJoinAndClose : armed.span.opened = none ∧ measuring.span.opened = some (openAt 0)
    ∧ { LineSet.initial with wireType := 3 }.wireType ≠ LineSet.initial.wireType := by decide
theorem witness_MastCandidatesCutTheSpans :
    (armed.run.state = .armed ∧ idle.run.state ≠ .armed ∧ idle.run.state ≠ .measuring)
      ∧ ((14999 : Int) - limited.start < (limited.spanMin : Int) * 1000
        ∧ ¬ (15000 : Int) - limited.start < (limited.spanMin : Int) * 1000)
      ∧ (let s := pendingAt .armed none false 110000
         s.span.candidate = some ⟨110000, .mk1, false⟩ ∧ s.span.provisional = some (.startingAt 110000)
           ∧ s.span.opened = none)
      ∧ (let s := pendingAt .measuring (some limited) true 120300
         s.run.state = .measuring ∧ s.span.opened = some limited
           ∧ limited.start + (limited.spanMax : Int) * 1000 + s.cfg.markers.qualify.e0 ≤ s.pos)
      ∧ (pendingAt .measuring (some limited) false 120299).pos < 120000 + 300
      ∧ (pendingAt .measuring (some limited) false 119999).pos < limited.start + (limited.spanMax : Int) * 1000
      ∧ (let s := atMm 120000 { measuring with span := { measuring.span with opened := some limited } }
         s.span.candidate = none ∧ limited.start + (limited.spanMax : Int) * 1000 ≤ s.pos)
      ∧ measuring.span.candidate = none := by decide +kernel
theorem witness_ScansAccumulateIntoTheirSpan :
    (let b := (pendingAt .measuring (some limited) false 110000).span
     b.candidate = some ⟨110000, .mk1, false⟩ ∧ b.provisional = some (.startingAt 110000) ∧ (110000 : Int) ≤ 110000
       ∧ ¬ (110000 : Int) ≤ 109999 ∧ b.opened = some limited)
      ∧ (measuring.span.candidate = none ∧ measuring.span.opened = some (openAt 0)) ∧ armed.span.opened = none := by
  decide +kernel
theorem witness_MonitorsAndWireLossFollowTheScan : measuring.run.state = .measuring ∧ armed.run.state ≠ .measuring
    ∧ (let x := (crossing.track (oneReturn 10500 0 5310000)).2.slots.e0
       x.track.state = .confirmed ∧ x.result = .hit)
    ∧ (measuring.track (oneReturn 100 0 5310000)).2.slots.e0.result = .new
    ∧ (let o := (measuring.track (oneReturn 50001 0 9000000)).2
       o.confirmedCount = 0 ∧ (measuring.cfg.line.wireLoss : Int) * 1000 < o.scan.position - measuring.span.watchRef) := by
  decide +kernel

/-! #### Markers, readings, queues and calibration -/

/-- A channel whose filter has accepted a level. -/
def settled (level : Bool) (due : Option Nat) : Channel := { Channel.initial with filter := ⟨some level, due⟩ }

theorem witness_MarkersAreFilteredAndAsserted : (idle.mark.channels.get .n0).filter.accepted = none
    ∧ idle.cfg.markers.debounce.get .n3 = true ∧ (settled false none).filter.accepted ≠ none
    ∧ { MarkerSet.initial with debounce := Four.const false }.debounce.get .n2 = false
    ∧ (settled true none).filter.accepted = some (!(idle.pins.markers.get .n2))
    ∧ (settled false none).filter.accepted = some (!(!(idle.pins.markers.get .n2))) ∧ armed.run.state ≠ .stopped
    ∧ (settled false none).filter.due = none ∧ (settled false (some 120)).filter.due = some 120
    ∧ (idle.mark.channels.get .n0).filter.accepted ≠ some (!(idle.pins.markers.get .n0))
    ∧ armed.link.handling = .openForRequests := by decide
theorem witness_ChannelsServeTheirUsers : (MarkerSet.initial.mast ≠ .mk2 ∧ MarkerSet.initial.mast = .either)
    ∧ idle.mark.mast.state = .idle ∧ (⟨.pending, 0, .mk1⟩ : Mast).state ≠ .idle ∧ (⟨.pending, 0, .mk1⟩ : Mast).state = .pending
    ∧ (⟨.qualified, 0, .mk1⟩ : Mast).state ≠ .pending ∧ { MarkerSet.initial with mast := .both }.mast ≠ .either
    ∧ idle.run.state = .stopped ∧ armed.run.state ≠ .stopped := by decide
theorem witness_AttitudeReadingsComplete : idle.att.first = none ∧ { idle.att with first := some 8388606 }.first = some 8388606
    ∧ idle.att.channel ≠ .temp ∧ (BitVec.ofInt 24 (-8388608)).toInt = -8388608
    ∧ ¬ ((8388606 : Int) = -8388608 ∨ (8388606 : Int) = 8388607 ∨ (0 : BitVec 24).toInt = -8388608 ∨ (0 : BitVec 24).toInt = 8388607)
    ∧ (sampled.vl.good = some ⟨5, 0⟩ ∧ sampled.vr.good = some ⟨5, 0⟩ ∧ sampled.lat.good = some ⟨5, 0⟩)
    ∧ Attitude.initial.vl.good = none := by decide +kernel
theorem witness_TemperatureReadingsComplete : idle.takesRequests ∧ idle.run.state = .stopped ∧ within (-4000) 8500 (-4000)
    ∧ (within (-32768) 32767 8501 ∧ ¬ within (-4000) 8500 8501)
    ∧ ({ idle.att with channel := .temp, first := some 629300 }.first = some 629300 ∧ idle.att.calTemp = none)
    ∧ within (-4000) 8500 (roundDiv (629300 * CalFields.initial.tRef) CalFields.initial.codeRef - 27315)
    ∧ ¬ within (-4000) 8500 (roundDiv (1 * CalFields.initial.tRef) CalFields.initial.codeRef - 27315)
    ∧ { idle.att with calTemp := some 8500 }.calTemp = some 8500 ∧ within (-4000) 8500 8500 := by
  refine ⟨idle_takes, rfl, ?_⟩
  unfold within; decide +kernel
theorem witness_ReadsAndFetchesTakeWhatTheyAnswer : idle.takesRequests ∧ ((7 : Byte).toNat ≤ 7 ∧ (255 : Byte) ≠ 0)
    ∧ 7 < (8 : Byte).toNat ∧ ((0 : Byte).toNat ≤ 7 ∧ (0 : Byte) = 0) ∧ (32 : Byte) ≠ 0 := by
  refine ⟨idle_takes, ?_⟩
  decide
theorem witness_AcknowledgementAndFaultRequests : idle.takesRequests ∧ (31 : Byte).toNat ≤ 31 ∧ 31 < (32 : Byte).toNat
    ∧ idle.rep.pulseDue = none ∧ { idle.rep with pulseDue := some 100 }.pulseDue = some 100 ∧ idle.rep.faults.length = 23 := by
  refine ⟨idle_takes, ?_⟩
  decide
theorem witness_CalibrationIsWrittenReadAndStored : idle.takesRequests ∧ idle.run.state = .stopped
    ∧ { CalFields.initial with alpha := 0, tRef := 35815 }.inRange
    ∧ ((List.replicate 59 (255 : Byte)).length = 59 ∧ ∀ f : CalFields, f.inRange → List.replicate 59 255 ≠ f.payload)
    ∧ idle.cal.storing = false ∧ storing.cal.storing = true
    ∧ List.replicate 63 0 ≠ storing.cal.work.payload ++ toBytes 4 (crc32 storing.cal.work.payload).toNat := by
  refine ⟨idle_takes, rfl, by unfold CalFields.inRange within; decide +kernel, ⟨rfl, ?_⟩, rfl, rfl, by decide +kernel⟩
  intro f h hb
  have h38 := congrArg (fun l => l[38]?) hb
  simp [CalFields.payload, toBytes, -BitVec.ofInt_natCast] at h38
  have := byte_of_int _ _ h38
  have := h.2.2.2.2.2.2.2.2.2.2.1
  simp [within] at *
  omega

end Sys2Proof.Tests
end

section
/-! Geometry and wear arithmetic (spec 5): the rounding, the integer root and the wear cases, and the settlement of O46. -/

namespace Sys2Proof.Machine

/-! ### Rounding and the integer root -/

/-- R71 away from negative quotients, where the sign plays no part. -/
theorem roundDiv_natCast (n : Nat) {d : Nat} (hd : 0 < d) :
    roundDiv (n : Int) (d : Int) = ((2 * n + d) / (2 * d) : Nat) := by
  have hsign : (n : Int) < 0 ↔ (d : Int) < 0 := by omega
  simp only [roundDiv, hsign, if_true, Int.natAbs_natCast]

/-- The search keeps the root found so far below the true root, and the bits still to be tried make up the rest. -/
theorem isqrtFrom_bounds (n k root : Nat) (hlow : root * root ≤ n) (hhigh : n < (root + 2 ^ k) * (root + 2 ^ k)) :
    isqrtFrom n k root * isqrtFrom n k root ≤ n ∧ n < (isqrtFrom n k root + 1) * (isqrtFrom n k root + 1) := by
  induction k generalizing root with
  | zero => exact ⟨hlow, hhigh⟩
  | succ k ih =>
    by_cases hfits : (root + 2 ^ k) * (root + 2 ^ k) ≤ n
    · have hhalves : root + 2 ^ (k + 1) = root + 2 ^ k + 2 ^ k := by rw [Nat.pow_succ]; omega
      rw [hhalves] at hhigh
      simpa only [isqrtFrom, if_pos hfits] using ih (root + 2 ^ k) hfits hhigh
    · simpa only [isqrtFrom, if_neg hfits] using ih root hlow (Nat.lt_of_not_le hfits)

/-- R81, step 2: `isqrt` answers the greatest integer whose square does not exceed its argument. -/
theorem isqrt_bounds {n : Nat} (hn : n < 2 ^ 64) : isqrt n * isqrt n ≤ n ∧ n < (isqrt n + 1) * (isqrt n + 1) :=
  isqrtFrom_bounds n 32 0 (Nat.zero_le n) (by omega)

/-! ### The wear indication (R80), one equation per case -/

theorem wearIndication_of_saturated (r resolution w : Nat) : wearIndication r resolution true w = .saturated := rfl

theorem wearIndication_of_diameter_le {r w : Nat} (resolution : Nat) (hwide : 2 * r ≤ w) :
    wearIndication r resolution false w = .widthImplausible := by
  simp [wearIndication, hwide]

theorem wearIndication_of_lt_resolution {r resolution w : Nat} (hwidth : w < 2 * r) (hres : w < resolution) :
    wearIndication r resolution false w = .belowResolution := by
  simp [wearIndication, Nat.not_le.mpr hwidth, hres]

theorem wearIndication_of_resolution_le {r resolution w : Nat} (hwidth : w < 2 * r) (hres : resolution ≤ w) :
    wearIndication r resolution false w = .sample := by
  simp [wearIndication, Nat.not_le.mpr hwidth, Nat.not_lt.mpr hres]

/-! ### The wear sample (R81, R82) -/

/-- The per mille is half a diameter added before the division: R71 with both terms of the quotient even. -/
theorem sampleOf_eq {r : Nat} (hr : 0 < r) (wireType remaining : Nat) :
    sampleOf r wireType remaining =
      { remaining := remaining, depth := 2 * r - remaining
        perMille := (1000 * remaining + r) / (2 * r), wireType := wireType } := by
  have hquot : (2 * (remaining * 1000) + 2 * r) / (2 * (2 * r)) = (1000 * remaining + r) / (2 * r) := by
    rw [← Nat.mul_add, Nat.mul_div_mul_left _ _ Nat.two_pos, Nat.mul_comm remaining]
  have hround : roundDiv ((remaining : Int) * 1000) ((2 * r : Nat) : Int) = ((1000 * remaining + r) / (2 * r) : Nat) := by
    rw [← hquot]
    exact_mod_cast roundDiv_natCast (remaining * 1000) (Nat.mul_pos Nat.two_pos hr)
  simp only [sampleOf, hround, Int.toNat_natCast]

/-- A whole wire: no depth and 1,000 per mille. -/
theorem sampleOf_diameter {r : Nat} (hr : 0 < r) (wireType : Nat) :
    sampleOf r wireType (2 * r) = { remaining := 2 * r, depth := 0, perMille := 1000, wireType := wireType } := by
  have hwhole : (1000 * (2 * r) + r) / (2 * r) = 1000 := by
    rw [Nat.mul_comm, Nat.mul_add_div (by omega), Nat.div_eq_of_lt (by omega)]
  rw [sampleOf_eq hr, hwhole, Nat.sub_self]

/-- The depth is what the root leaves of the radius. -/
theorem sampleOf_radius_add {r : Nat} (hr : 0 < r) (wireType root : Nat) :
    sampleOf r wireType (r + root) =
      { remaining := r + root, depth := r - root
        perMille := (1000 * (r + root) + r) / (2 * r), wireType := wireType } := by
  have hdepth : 2 * r - (r + root) = r - root := by omega
  rw [sampleOf_eq hr, hdepth]

/-- A radius that the wire type table can hold keeps the argument of R81's root in the range of `isqrt`. -/
theorem squareLeft_lt {r : Nat} (hr : r ≤ 8000) (w : Nat) : r * r - w * w / 4 < 2 ^ 64 := by
  have hsquare : r * r ≤ 8000 * 8000 := Nat.mul_le_mul hr hr
  omega

/-! ### A converted return carries the indication of its width and the sample of that indication -/

theorem convertReturn_indication (c : CalFields) (g : Groups) (reversed : Bool) (snap : Snapshot) (r : ScanReturn) :
    (convertReturn c g reversed snap r).indication
      = wearIndication g.wireTypeInForce.radius g.tracking.wearResolution r.saturated r.wh := rfl

theorem convertReturn_sample (c : CalFields) (g : Groups) (reversed : Bool) (snap : Snapshot) (r : ScanReturn) :
    (convertReturn c g reversed snap r).sample
      = wearSample g.wireTypeInForce.radius g.line.wireType r.wh (convertReturn c g reversed snap r).indication := rfl

/-- Settles O46, by the cases of R80; the SAMPLE case takes the root that `isqrt` finds. -/
theorem wearSamplesFollowTheirCase : Obligations.WearSamplesFollowTheirCase := by
  intro c g reversed snap r hrange out radius
  obtain ⟨⟨hmin, hmax⟩, -, -⟩ := hrange
  have hpos : 0 < radius := by omega
  have hind : out.indication = wearIndication radius g.tracking.wearResolution r.saturated r.wh :=
    convertReturn_indication c g reversed snap r
  have hsample : out.sample = wearSample radius g.line.wireType r.wh out.indication :=
    convertReturn_sample c g reversed snap r
  refine ⟨fun hsat => ?saturated, fun hsat hwide => ?implausible, fun hsat hwidth hres => ?below,
    fun hsat hwidth hres => ?sample⟩ <;> rw [hsat] at hind
  case saturated =>
    rw [wearIndication_of_saturated] at hind
    exact ⟨hind, by rw [hsample, hind, wearSample]⟩
  case implausible =>
    rw [wearIndication_of_diameter_le _ hwide] at hind
    exact ⟨hind, by rw [hsample, hind, wearSample]⟩
  case below =>
    rw [wearIndication_of_lt_resolution hwidth hres] at hind
    exact ⟨hind, by rw [hsample, hind, wearSample, sampleOf_diameter hpos]⟩
  case sample =>
    rw [wearIndication_of_resolution_le hwidth hres] at hind
    obtain ⟨hroot, hnext⟩ := isqrt_bounds (squareLeft_lt (r := radius) (by omega) r.wh)
    exact ⟨_, hroot, hnext, hind, by rw [hsample, hind, wearSample, remainingHeight, sampleOf_radius_add hpos]⟩

end Sys2Proof.Machine
end

section
/-! ATTN_N and its causes (R158): every command ends with the arbiter and ATTN_N; the resets; the settlement of O10. -/

namespace Sys2Proof.Machine

/-! ### ATTN_N at the end of a command -/

/-- No attention cause reads ATTN_N itself, so the level that `settle` computes still stands once it is written. -/
theorem State.settle_attnFollows (s : State) : s.settle.attnFollows := rfl

/-- R158 with the causes of R157 written out. -/
theorem attnLevel_eq_true_iff (cfg : ReportingSet) (r : Report) :
    attnLevel cfg r = true ↔
      r.pulseDue = none
        ∧ ((cfg.mask.spanAvailable = true ∧ cfg.spanMark ≤ r.spans.available)
          ∨ (cfg.mask.eventAvailable = true ∧ r.events.items ≠ [])
          ∨ (cfg.mask.queueLoss = true ∧ r.lossCause = true)
          ∨ (cfg.mask.fault = true ∧ r.faultCause = true)
          ∨ (cfg.mask.runState = true ∧ r.runCause = true)) := by
  simp only [attnLevel, Causes.anyEnabled, activeCauses, Bool.and_eq_true, Bool.or_eq_true, decide_eq_true_eq,
    Option.isNone_iff_eq_none, and_comm, or_assoc]

/-! ### Every command ends in `finish` -/

/-- No command leaves by another way than the end that R158 and R166 give it. The branching commands are grouped by what
they branch on. -/
theorem exec_eq_finish (c : Instr) (s : State) : ∃ u : State, exec c s = finish u := by
  cases c with
  -- A timer or a transmission, which may not be running (log entry 3).
  | trigInFilterExpiry | periodTimerExpiry | burstPulseTimer | stuckTimerExpiry | ackCountDecision | blankOutEnd
  | chargeGuardExpiry | markerDebounceExpiry | attnPulseEnd | headTimeout | armFrameSent | hostTxFrameDone =>
    simp only [exec, execTrigInFilterExpiry, execPeriodTimerExpiry, execBurstPulseTimer, execStuckTimerExpiry,
      execAckCountDecision, execBlankOutEnd, execChargeGuardExpiry, execMarkerDebounceExpiry, execAttnPulseEnd,
      execHeadTimeout, execArmFrameSent, execHostTxFrameDone]
    repeat' split
    all_goals exact ⟨_, rfl⟩
  -- The phase of a start-up, of a store or of a conversion.
  | calLoadDone | calStoreDone | hostRxPreamble | adcConversionDone =>
    simp only [exec, execCalLoadDone, execCalStoreDone, execHostRxPreamble, execAdcConversionDone]
    split <;> exact ⟨_, rfl⟩
  -- What a received frame holds or how it failed.
  | returnsFrameReceived | headFrameError | hostFrameError =>
    simp only [exec, execReturnsFrameReceived, execHeadFrameError, execHostFrameError]
    repeat' split
    all_goals exact ⟨_, rfl⟩
  | _ => exact ⟨_, rfl⟩

/-- R158 holds in the state that any command leaves. -/
theorem exec_attnFollows {c : Instr} {s t : State} (h : exec c s = .next t) : t.attnFollows := by
  obtain ⟨u, hu⟩ := exec_eq_finish c s
  have ht : Host.Outcome.next u.settle = .next t := hu.symm.trans h
  cases ht
  exact u.settle_attnFollows

/-! ### ATTN_N after a reset -/

/-- A start-up clears the queues, the latched causes and the pulse. -/
theorem State.startUp_rep (pins : PinLevels) (rate : Nat) (kind : ResetKind) (block : List Byte) (free : Nat)
    (pending : List Instr) : (State.startUp pins rate kind block free pending).rep = .initial := rfl

/-- While the part starts up no frame begins, and no cause is active: the end of the command changes nothing. -/
theorem State.startUp_settle (pins : PinLevels) (rate : Nat) (kind : ResetKind) (block : List Byte) (free : Nat)
    (pending : List Instr) : (State.startUp pins rate kind block free pending).settle =
      State.startUp pins rate kind block free pending := rfl

/-- POWER_ON_RESET leaves the Output Buffers at their reset values. -/
theorem exec_powerOnReset_rep (pins : PinLevels) (written : Bool) (s : State) :
    ∃ t : State, exec (.powerOnReset pins written) s = .next t ∧ t.rep = .initial :=
  ⟨_, rfl, by rw [State.startUp_settle, State.startUp_rep]⟩

/-- Settles O10: every command ends in `finish`, whose last act is to set ATTN_N, and a reset starts from no cause. -/
theorem attentionFollowsItsCauses : Obligations.AttentionFollowsItsCauses := by
  refine ⟨fun c s t h => ?everyCommand, fun pins written s => ?powerOn, fun s => ?soft⟩
  case everyCommand =>
    have hlevel : t.rep.attn = attnLevel t.cfg.reporting t.rep := exec_attnFollows h
    rw [hlevel, attnLevel_eq_true_iff]
  case powerOn =>
    obtain ⟨t, hexec, hrep⟩ := exec_powerOnReset_rep pins written s
    exact ⟨t, hexec, by rw [hrep]; exact ⟨rfl, rfl⟩⟩
  case soft =>
    have hrep : s.softReset.rep = .initial := State.startUp_rep _ _ _ _ _ _
    exact ⟨by rw [hrep]; rfl, by rw [hrep]; rfl⟩

end Sys2Proof.Machine
end

section
/-! Faults by their class (R36, R37, R128, R129, R144, R180 to R184): the records after an occurrence, a degrading
occurrence, what the Span Builder and the exposure leave at the entry into FAULTED, and the settlement of O14. -/

namespace Sys2Proof.Machine

/-! ### The place of a record -/

/-- The record of a code stands where the code stands in the list of R186. -/
theorem FaultCode.all_getElem?_index (c : FaultCode) : FaultCode.all[c.index]? = some c := by cases c <;> rfl

theorem FaultCode.index_lt (c : FaultCode) : c.index < 23 := by
  obtain ⟨hlt, -⟩ := List.getElem?_eq_some_iff.mp c.all_getElem?_index
  exact hlt

theorem FaultCode.index_ne {c d : FaultCode} (h : c ≠ d) : c.index ≠ d.index := fun hindex =>
  h (Option.some.inj (by rw [← c.all_getElem?_index, hindex, d.all_getElem?_index]))

theorem FaultCode.ne_queueLoss_of_class {c : FaultCode} (h : c.class ≠ .notice) : c ≠ .queueLoss :=
  fun hc => h (hc ▸ rfl)

/-! ### The records after an occurrence (R180) -/

/-- With all 23 records present, changing a code's record is writing the changed one in its place. -/
theorem Report.modify_faults_eq_set {r : Report} (h : r.faults.length = 23) (c : FaultCode)
    (f : FaultRecord → FaultRecord) : r.faults.modify c.index f = r.faults.set c.index (f (r.record c)) := by
  have hlt : c.index < r.faults.length := h ▸ c.index_lt
  rw [List.modify_eq_set_getElem?, Report.record, List.getElem?_eq_getElem hlt]
  rfl

theorem Report.count_eq {r : Report} (h : r.faults.length = 23) (pos : Int) (c : FaultCode) (v : FaultValue) :
    r.count pos c v = { r with faults := r.faults.set c.index ((r.record c).take pos v) } := by
  rw [Report.count, Report.modify_faults_eq_set h]

theorem Report.record_set_self {r : Report} (h : r.faults.length = 23) (c : FaultCode) (x : FaultRecord) :
    Report.record { r with faults := r.faults.set c.index x } c = x := by
  rw [Report.record, List.getElem?_set_self (h ▸ c.index_lt), Option.getD_some]

theorem Report.record_count_self {r : Report} (h : r.faults.length = 23) (pos : Int) (c : FaultCode) (v : FaultValue) :
    (r.count pos c v).record c = (r.record c).take pos v := by
  rw [Report.count_eq h, Report.record_set_self h]

theorem Report.record_count_of_ne {c d : FaultCode} (hne : c ≠ d) (r : Report) (pos : Int) (v : FaultValue) :
    (r.count pos d v).record c = r.record c := by
  simp only [Report.record, Report.count, List.getElem?_modify, if_neg (FaultCode.index_ne hne).symm, id_map']

/-! ### Events and records handed to the queues (R148, R151) -/

theorem Report.produce_of_room {r : Report} (h : r.events.items.length < 64) (pos : Int) (time : Word32) (at_ : Int)
    (body : EventBody) : r.produce pos time at_ body =
      { r with
        events := { items := r.events.items ++
                      [{ seq := r.events.seq + 1, gap := r.events.lost, position := at_, time := time, body := body }]
                    seq := r.events.seq + 1, lastStored := r.events.seq + 1, lost := 0 } } :=
  if_pos h

theorem Report.produce_of_full {r : Report} (h : 64 ≤ r.events.items.length) (pos : Int) (time : Word32) (at_ : Int)
    (body : EventBody) : r.produce pos time at_ body =
      Report.count pos .queueLoss (queueLossValue 1 (r.events.seq + 1))
        { r with events := { r.events with seq := r.events.seq + 1, lost := r.events.lost + 1 }, lossCause := true } :=
  if_neg (Nat.not_lt.mpr h)

/-- A full event queue touches the record of QUEUE_LOSS alone. -/
theorem Report.record_produce {c : FaultCode} (hc : c ≠ .queueLoss) (r : Report) (pos : Int) (time : Word32) (at_ : Int)
    (body : EventBody) : (r.produce pos time at_ body).record c = r.record c := by
  rcases Nat.lt_or_ge r.events.items.length 64 with hroom | hfull
  · rw [Report.produce_of_room hroom]; rfl
  · rw [Report.produce_of_full hfull, Report.record_count_of_ne hc]; rfl

theorem Report.record_foldl_produce {c : FaultCode} (hc : c ≠ .queueLoss) (pos : Int) (time : Word32) (at_ : Int)
    (bodies : List EventBody) (r : Report) :
    (bodies.foldl (fun q b => q.produce pos time at_ b) r).record c = r.record c := by
  induction bodies generalizing r with
  | nil => rfl
  | cons b bs ih => rw [List.foldl_cons, ih, Report.record_produce hc]

/-- A full span queue touches the record of QUEUE_LOSS alone. -/
theorem Report.record_storeSpan {c : FaultCode} (hc : c ≠ .queueLoss) (r : Report) (pos : Int) (x : SpanRec) :
    (r.storeSpan pos x).record c = r.record c := by
  simp only [Report.storeSpan]
  split
  · rfl
  · rw [Report.record_count_of_ne hc]; rfl

/-- Events at one position are produced one after another into the queue. -/
theorem State.emitAllAt_eq (at_ : Int) (bodies : List EventBody) (s : State) :
    State.emitAllAt at_ bodies s =
      { s with rep := bodies.foldl (fun r b => r.produce s.pos s.timeMs at_ b) s.rep } := by
  induction bodies generalizing s with
  | nil => rfl
  | cons b bs ih => exact ih (s.emitAt at_ b)

/-! ### A degrading occurrence (R182) -/

theorem Report.degrade_of_marked {r : Report} (hlen : r.faults.length = 23) {spanOpen : Bool} {c : FaultCode}
    (hmark : (r.record c).marked spanOpen = true) (pos : Int) (time : Word32) (v : FaultValue) :
    r.degrade pos time spanOpen c v =
      { r with faults := r.faults.set c.index ((r.record c).take pos v), faultCause := true } := by
  have hcounted : ((r.count pos c v).record c).marked spanOpen = true := by
    rw [Report.record_count_self hlen]; exact hmark
  exact (if_pos hcounted).trans (by rw [Report.count_eq hlen])

theorem Report.degrade_of_clear {r : Report} (hlen : r.faults.length = 23) {spanOpen : Bool} {c : FaultCode}
    (hmark : (r.record c).marked spanOpen = false) (pos : Int) (time : Word32) (v : FaultValue) :
    r.degrade pos time spanOpen c v =
      Report.produce pos time pos (.fault c v ((r.record c).take pos v).count)
        { r with
          faults := r.faults.set c.index (((r.record c).take pos v).setMarks spanOpen), faultCause := true } := by
  have hrecord : (r.count pos c v).record c = (r.record c).take pos v := Report.record_count_self hlen pos c v
  have hcounted : ¬ ((r.count pos c v).record c).marked spanOpen = true := by
    rw [hrecord]; exact Bool.eq_false_iff.mp hmark
  have hmarks : (r.count pos c v).faults.modify c.index (FaultRecord.setMarks spanOpen) =
      r.faults.set c.index (((r.record c).take pos v).setMarks spanOpen) := by
    rw [Report.modify_faults_eq_set (by rw [Report.count_eq hlen, List.length_set, hlen]), hrecord, Report.count_eq hlen,
      List.set_set]
  refine (if_neg hcounted).trans ?_
  change Report.produce pos time pos (.fault c v ((r.count pos c v).record c).count)
    { r with faults := (r.count pos c v).faults.modify c.index (FaultRecord.setMarks spanOpen), faultCause := true } = _
  rw [hrecord, hmarks]

theorem Report.degrade_of_room {r : Report} (hlen : r.faults.length = 23) {spanOpen : Bool} {c : FaultCode}
    (hmark : (r.record c).marked spanOpen = false) (hroom : r.events.items.length < 64) (pos : Int) (time : Word32)
    (v : FaultValue) : r.degrade pos time spanOpen c v =
      { r with
        faultCause := true
        faults := r.faults.set c.index (((r.record c).take pos v).setMarks spanOpen)
        events := { items := r.events.items ++
                      [{ seq := r.events.seq + 1, gap := r.events.lost, position := pos, time := time
                         body := .fault c v ((r.record c).take pos v).count }]
                    seq := r.events.seq + 1, lastStored := r.events.seq + 1, lost := 0 } } := by
  rw [Report.degrade_of_clear hlen hmark, Report.produce_of_room]
  exact hroom

/-- With the event queue full the FAULT event is lost, and QUEUE_LOSS is counted besides (R151, log entry 16). -/
theorem Report.degrade_of_full {r : Report} (hlen : r.faults.length = 23) {spanOpen : Bool} {c : FaultCode}
    (hc : c ≠ .queueLoss) (hmark : (r.record c).marked spanOpen = false) (hfull : 64 ≤ r.events.items.length) (pos : Int)
    (time : Word32) (v : FaultValue) : r.degrade pos time spanOpen c v =
      { r with
        faultCause := true, lossCause := true
        faults := (r.faults.set c.index (((r.record c).take pos v).setMarks spanOpen)).set FaultCode.queueLoss.index
          ((r.record .queueLoss).take pos (queueLossValue 1 (r.events.seq + 1)))
        events := { r.events with seq := r.events.seq + 1, lost := r.events.lost + 1 } } := by
  rw [Report.degrade_of_clear hlen hmark, Report.produce_of_full, Report.count_eq]
  · simp only [Report.record, List.getElem?_set_ne (FaultCode.index_ne hc)]
  · exact (List.length_set ..).trans hlen
  · exact hfull

/-- R180 holds in both cases of R182; only the marks tell them apart. -/
theorem Report.record_degrade {r : Report} (hlen : r.faults.length = 23) {c : FaultCode} (hc : c ≠ .queueLoss)
    (spanOpen : Bool) (pos : Int) (time : Word32) (v : FaultValue) :
    (r.degrade pos time spanOpen c v).record c = (r.record c).take pos v
      ∨ (r.degrade pos time spanOpen c v).record c = ((r.record c).take pos v).setMarks spanOpen := by
  cases hmark : (r.record c).marked spanOpen with
  | true => exact .inl (by rw [Report.degrade_of_marked hlen hmark]; exact Report.record_set_self hlen c _)
  | false =>
    exact .inr (by
      rw [Report.degrade_of_clear hlen hmark, Report.record_produce hc]; exact Report.record_set_self hlen c _)

/-! ### Raising a fault, one equation per class -/

theorem State.raise_of_notice {c : FaultCode} (h : c.class = .notice) (v : FaultValue) (s : State) :
    s.raise c v = { s with rep := s.rep.count s.pos c v } := by
  simp only [State.raise, h]

theorem State.raise_of_degrading {c : FaultCode} (h : c.class = .degrading) (v : FaultValue) (s : State) :
    s.raise c v = { s with rep := s.rep.degrade s.pos s.timeMs s.span.opened.isSome c v } := by
  simp only [State.raise, h]

theorem State.raiseHalting_of_running {s : State} (h : s.run.state.running = true) (c : FaultCode) (v : FaultValue) :
    s.raiseHalting c v = State.enterFaulted c { s with rep := s.rep.halt s.pos s.timeMs c v } :=
  if_pos h

theorem State.raiseHalting_of_not_running {s : State} (h : s.run.state.running = false) (c : FaultCode)
    (v : FaultValue) : s.raiseHalting c v = { s with rep := s.rep.count s.pos c v } :=
  if_neg (Bool.eq_false_iff.mp h)

/-- R136: the running states. -/
theorem RunState.running_eq_true_iff (r : RunState) : r.running = true ↔ r = .armed ∨ r = .measuring ∨ r = .paused := by
  cases r <;> decide

theorem RunState.running_eq_false_iff (r : RunState) : r.running = false ↔ r = .stopped ∨ r = .faulted := by
  cases r <;> decide

theorem Report.halt_eq {r : Report} (hlen : r.faults.length = 23) (pos : Int) (time : Word32) (c : FaultCode)
    (v : FaultValue) : r.halt pos time c v =
      Report.produce pos time pos (.fault c v ((r.record c).take pos v).count)
        { r with faults := r.faults.set c.index ((r.record c).take pos v), faultCause := true } := by
  change Report.produce pos time pos (.fault c v ((r.count pos c v).record c).count)
    { r.count pos c v with faultCause := true } = _
  rw [Report.record_count_self hlen, Report.count_eq hlen]

theorem Report.record_halt {r : Report} (hlen : r.faults.length = 23) {c : FaultCode} (hc : c ≠ .queueLoss) (pos : Int)
    (time : Word32) (v : FaultValue) : (r.halt pos time c v).record c = (r.record c).take pos v := by
  rw [Report.halt_eq hlen, Report.record_produce hc]
  exact Report.record_set_self hlen c _

/-! ### What the Span Builder holds is closed (R128, R129) -/

/-- The report after the open span, if there is one, is handed to the span queue (R128). -/
def State.closedReport (reason : CloseReason) (stop : Int) (source : Source) (s : State) : Report :=
  s.span.opened.elim s.rep fun r =>
    s.rep.storeSpan s.pos (r.closed s.span.view reason stop source (s.span.seq + 1))

theorem State.closeSpan_eq (reason : CloseReason) (stop : Int) (source : Source) (s : State) :
    s.closeSpan reason stop source =
      { s with
        span := { s.span with opened := none, seq := s.closingNumber.getD s.span.seq }
        rep := s.closedReport reason stop source } := by
  cases hopen : s.span.opened with
  | some r => simp only [State.closeSpan, State.closingNumber, State.closedReport, hopen]; rfl
  | none =>
    have hspan : { s.span with opened := none } = s.span := by rw [← hopen]
    simp only [State.closeSpan, State.closingNumber, State.closedReport, hopen]
    change s = { s with span := { s.span with opened := none } }
    rw [hspan]

/-- R129: the open span is joined by the provisional one, when there are both. -/
theorem SpanBuilder.foldBack_opened (b : SpanBuilder) :
    b.foldBack.opened = b.opened.map fun o => b.provisional.elim o (mergeSpans o) := by
  unfold SpanBuilder.foldBack
  cases b.opened <;> cases b.provisional <;> rfl

/-- The open span is joined by the provisional one and closes with the next number, and the open monitors close after
it; nothing of the Span Builder is left but its number. -/
theorem State.tearDownSpans_eq (reason : CloseReason) (stop : Int) (s : State) :
    s.tearDownSpans reason stop =
      { s with
        span := { SpanBuilder.initial with seq := s.closingNumber.getD s.span.seq }
        rep := (closeAllEvents .runEnd s.pos s.span.monitors).foldl (fun r b => r.produce s.pos s.timeMs s.pos b)
          (State.closedReport reason stop .none { s with span := s.span.foldBack }) } := by
  have hnumber : State.closingNumber { s with span := s.span.foldBack } = s.closingNumber := by
    simp only [State.closingNumber, SpanBuilder.foldBack_opened, Option.map_map]; rfl
  simp only [State.tearDownSpans, State.emitAllAt_eq, State.closeSpan_eq, hnumber]
  rfl

theorem State.currentEnd_of_open {s : State} {o : SpanRec} (h : s.span.opened = some o) :
    s.currentEnd = max s.pos o.start := by
  simp only [State.currentEnd, h]
  omega

/-- At the entry into FAULTED the open span closes FAULT, joined by a provisional one. -/
theorem State.closedReport_fault (s : State) :
    State.closedReport .fault s.currentEnd .none { s with span := s.span.foldBack } =
      s.span.opened.elim s.rep fun o =>
        s.rep.storeSpan s.pos
          ((s.span.provisional.elim o (mergeSpans o)).closed s.span.view .fault (max s.pos o.start) .none
            (s.span.seq + 1)) := by
  simp only [State.closedReport, SpanBuilder.foldBack_opened]
  cases hopen : s.span.opened with
  | none => rfl
  | some o => rw [State.currentEnd_of_open hopen]; rfl

theorem State.record_closedReport {c : FaultCode} (hc : c ≠ .queueLoss) (reason : CloseReason) (stop : Int)
    (source : Source) (s : State) : (s.closedReport reason stop source).record c = s.rep.record c := by
  unfold State.closedReport
  cases s.span.opened with
  | none => rfl
  | some r => exact Report.record_storeSpan hc _ _ _

/-- The length of a closed exceedance is not below 0 (R132). -/
theorem excCloseOf_eq (k : MonitorKind) (slot : Slot) (reason : ExcReason) (at_ : Int) (m : Monitor) :
    excCloseOf k slot reason at_ m =
      .excClose k slot m.wireId reason m.openPos m.peak m.peakPos (max 0 (at_ - m.openPos)) := by
  have hlength : (if at_ < m.openPos then 0 else at_ - m.openPos) = max 0 (at_ - m.openPos) := by split <;> omega
  rw [excCloseOf, hlength]

theorem closeEvents_eq (reason : ExcReason) (at_ : Int) (slot : Slot) (m : Monitors) :
    closeEvents reason at_ slot m =
      [(MonitorKind.stagger, m.stagger), (.heightLow, m.heightLow), (.wear, m.wear)].filterMap fun p =>
        p.2.map fun x => .excClose p.1 slot x.wireId reason x.openPos x.peak x.peakPos (max 0 (at_ - x.openPos)) := by
  simp only [← excCloseOf_eq]
  rfl

theorem closeAllEvents_eq (reason : ExcReason) (at_ : Int) (ms : Four Monitors) :
    closeAllEvents reason at_ ms =
      closeEvents reason at_ .n0 (ms.get .n0) ++ closeEvents reason at_ .n1 (ms.get .n1)
        ++ closeEvents reason at_ .n2 (ms.get .n2) ++ closeEvents reason at_ .n3 (ms.get .n3) := by
  simp only [closeAllEvents, Ix.all, List.map_cons, List.map_nil, List.flatten_cons, List.flatten_nil, List.append_nil,
    List.append_assoc]

/-! ### The exposure and the live tracks at the entry into FAULTED (R36, R37, R111, R112, R144) -/

/-- The exposure controller after an exposure that was cut short, or was not running, at the entry into FAULTED. -/
def Expo.faulted (now : Nat) (set : ExposureSet) (e : Expo) : Expo :=
  let cut := e.state = .arming ∨ e.state = .window
  let guarded := cut ∧ set.quiet = true
  { e with
    state := if cut then .ready else e.state, burst := if cut then none else e.burst
    stuckDue := if cut then none else e.stuckDue, expSync := if cut then false else e.expSync
    lasDrv := if cut then false else e.lasDrv, ack := none
    guardDue := if guarded then (if set.chargeGuard = 0 then none else some (now + 4 * set.chargeGuard)) else e.guardDue
    chgEn := e.chgEn || (decide guarded && decide (set.chargeGuard = 0)) }

theorem ExpoState.unfinished_iff (x : ExpoState) : x.unfinished = true ↔ x = .arming ∨ x = .window := by
  cases x <;> decide

theorem State.faultExposure_eq (s : State) :
    s.faultExposure = { s with expo := s.expo.faulted s.clock s.cfg.exposure } := by
  by_cases hcut : s.expo.state = .arming ∨ s.expo.state = .window
  · have hunfinished := (ExpoState.unfinished_iff _).mpr hcut
    by_cases hquiet : s.cfg.exposure.quiet = true
    · by_cases hzero : s.cfg.exposure.chargeGuard = 0 <;>
        simp [State.faultExposure, State.endExposure, State.startGuard, Expo.faulted, hunfinished, hcut, hquiet, hzero, us,
          tickPerUs]
    · simp [State.faultExposure, State.endExposure, State.startGuard, Expo.faulted, hunfinished, hcut, hquiet]
  · have hfinished : ¬ s.expo.state.unfinished = true := mt (ExpoState.unfinished_iff _).mp hcut
    simp [State.faultExposure, State.endExposure, Expo.faulted, hfinished, hcut]

theorem liveAfter_const_empty (before : Four Track) (live : Four LiveTrack) :
    liveAfter before (Four.const .empty) live =
      Four.tabulate fun k => if (before.get k).state = .free then live.get k else liveOf .empty := by
  simp only [liveAfter, Track.inUse]
  congr 1
  funext k
  by_cases hfree : (before.get k).state = .free <;> cases k <;> simp_all [Four.get, Four.const, Track.empty]

/-! ### The entry into FAULTED (R144, R184) -/

theorem State.enterFaulted_eq (c : FaultCode) (s : State) :
    s.enterFaulted c =
      { s with
        run := { state := .faulted, number := s.run.number, cause := some .haltingFault, causeFault := some c }
        rep := { Report.produce s.pos s.timeMs s.pos
                   (.runState s.run.state .faulted .haltingFault s.run.number (some c) s.closingNumber none)
                   (s.tearDownSpans .fault s.currentEnd).rep with
                 runCause := true }
        span := { SpanBuilder.initial with seq := s.closingNumber.getD s.span.seq }
        trk := { s.trk with tracks := Four.const .empty }, table := []
        live := { s.live with tracks := liveAfter s.trk.tracks (Four.const .empty) s.live.tracks }
        expo := s.expo.faulted s.clock s.cfg.exposure } := by
  simp only [State.enterFaulted, State.faultExposure_eq, State.tearDownSpans_eq, State.clearTracks, State.changeRun,
    RunCause.madeByPart, Bool.or_true]
  rfl

theorem State.record_enterFaulted {c : FaultCode} (hc : c ≠ .queueLoss) (f : FaultCode) (s : State) :
    (s.enterFaulted f).rep.record c = s.rep.record c := by
  rw [State.enterFaulted_eq]
  refine (Report.record_produce hc _ _ _ _ _).trans ?_
  rw [State.tearDownSpans_eq]
  exact (Report.record_foldl_produce hc _ _ _ _ _).trans (State.record_closedReport hc _ _ _ _)

/-! ### R180 for every class, and the classes (R179) -/

/-- A code's record after an occurrence: R180, whatever its class does besides. -/
theorem State.record_raise {s : State} (hlen : s.rep.faults.length = 23) (c : FaultCode) (v : FaultValue) :
    (s.raise c v).rep.record c = (s.rep.record c).take s.pos v
      ∨ ∃ spanOpen, (s.raise c v).rep.record c = ((s.rep.record c).take s.pos v).setMarks spanOpen := by
  have hcount : (s.rep.count s.pos c v).record c = (s.rep.record c).take s.pos v := Report.record_count_self hlen _ _ _
  cases hclass : c.class with
  | notice => exact .inl (by rw [State.raise_of_notice hclass]; exact hcount)
  | halting => exact .inl (by simp only [State.raise, hclass]; exact hcount)
  | degrading =>
    rw [State.raise_of_degrading hclass]
    have hc : c ≠ .queueLoss := FaultCode.ne_queueLoss_of_class (by rw [hclass]; decide)
    rcases Report.record_degrade hlen hc s.span.opened.isSome s.pos s.timeMs v with h | h
    · exact .inl h
    · exact .inr ⟨_, h⟩

theorem State.record_raiseHalting {s : State} (hlen : s.rep.faults.length = 23) {c : FaultCode}
    (hc : c ≠ .queueLoss) (v : FaultValue) : (s.raiseHalting c v).rep.record c = (s.rep.record c).take s.pos v := by
  cases hrun : s.run.state.running with
  | true =>
    rw [State.raiseHalting_of_running hrun, State.record_enterFaulted hc]
    exact Report.record_halt hlen hc _ _ _
  | false =>
    rw [State.raiseHalting_of_not_running hrun]
    exact Report.record_count_self hlen _ _ _

theorem FaultCode.class_eq_halting_iff (c : FaultCode) : c.class = .halting ↔ c = .headsLost ∨ c = .odoLost := by
  cases c <;> decide

theorem FaultCode.class_eq_notice_iff (c : FaultCode) :
    c.class = .notice ↔ c = .headLate ∨ c = .headFrame ∨ c = .returnsTruncated ∨ c = .triggerOverrun ∨ c = .odoPhase
      ∨ c = .trackSlotsFull ∨ c = .queueLoss ∨ c = .linkFrame ∨ c = .linkOverrun := by
  cases c <;> decide

/-- Settles O14: one equation per class, and in the running states the equation of the entry into FAULTED. -/
theorem faultsAreCountedByTheirClass : Obligations.FaultsAreCountedByTheirClass := by
  refine ⟨fun c v s hlen => ⟨fun hnotice => ?notice, fun hdegrading => ⟨fun hmark => ?marked,
    fun hmark hroom => ?stored, fun hmark hfull => ?lost⟩, fun _ hidle => ?idle,
    fun _ hrunning => ?running, ?record⟩, fun c => ⟨c.class_eq_halting_iff, c.class_eq_notice_iff⟩⟩
  case notice =>
    rw [State.raise_of_notice hnotice, Report.count_eq hlen]
    rfl
  case marked =>
    rw [State.raise_of_degrading hdegrading, Report.degrade_of_marked hlen hmark]
    rfl
  case stored =>
    rw [State.raise_of_degrading hdegrading, Report.degrade_of_room hlen hmark hroom]
    rfl
  case lost =>
    have hc : c ≠ .queueLoss := FaultCode.ne_queueLoss_of_class (by rw [hdegrading]; decide)
    rw [State.raise_of_degrading hdegrading, Report.degrade_of_full hlen hc hmark hfull]
    rfl
  case idle =>
    rw [State.raiseHalting_of_not_running ((RunState.running_eq_false_iff _).mpr hidle), Report.count_eq hlen]
    rfl
  case running =>
    rw [State.raiseHalting_of_running ((RunState.running_eq_true_iff _).mpr hrunning), State.enterFaulted_eq,
      State.tearDownSpans_eq, State.closedReport_fault, closeAllEvents_eq, liveAfter_const_empty, Report.halt_eq hlen]
    simp only [closeEvents_eq, State.closingNumber]
    cases s.span.opened with
    | none => rfl
    | some o => cases s.span.provisional <;> rfl
  case record =>
    intro after now
    by_cases hhalting : c.class = .halting
    · have hc : c ≠ .queueLoss := FaultCode.ne_queueLoss_of_class (by rw [hhalting]; decide)
      have hnow : now = (s.rep.record c).take s.pos v := by
        simp only [now, after, if_pos hhalting, State.record_raiseHalting hlen hc]
      rw [hnow]
      exact ⟨rfl, rfl, rfl, rfl⟩
    · have hnow : now = (s.raise c v).rep.record c := by simp only [now, after, if_neg hhalting]
      rcases State.record_raise hlen c v with h | ⟨spanOpen, h⟩ <;> rw [hnow, h] <;> exact ⟨rfl, rfl, rfl, rfl⟩

end Sys2Proof.Machine
end

section
/-! What every command keeps (O2 to O8): the numbers of the two queues. -/

namespace Sys2Proof.Machine

/-! ### Numbers that follow one another (R148, R151) -/

/-- Each item stands in a relation to the one that follows it. -/
def Linked {α : Type} (R : α → α → Prop) (l : List α) : Prop :=
  ∀ n (x y : α), l[n]? = some x → l[n + 1]? = some y → R x y

theorem Linked.append_singleton {α : Type} {R : α → α → Prop} {l : List α} {z : α} (hl : Linked R l)
    (hz : ∀ x, l.getLast? = some x → R x z) : Linked R (l ++ [z]) := by
  intro n x y hx hy
  rcases Nat.lt_trichotomy (n + 1) l.length with hlt | heq | hgt
  · rw [List.getElem?_append_left (by omega)] at hx
    rw [List.getElem?_append_left hlt] at hy
    exact hl n x y hx hy
  · rw [List.getElem?_append_left (by omega)] at hx
    rw [List.getElem?_append_right (by omega), heq, Nat.sub_self] at hy
    obtain rfl : z = y := Option.some.inj hy
    exact hz x (by rw [List.getLast?_eq_getElem?, ← heq]; exact hx)
  · rw [List.getElem?_eq_none (by simpa using hgt)] at hy
    cases hy

theorem Linked.of_append_right {α : Type} {R : α → α → Prop} {taken rest : List α} (h : Linked R (taken ++ rest)) :
    Linked R rest := by
  intro n x y hx hy
  refine h (taken.length + n) x y ?_ ?_
  · rwa [List.getElem?_append_right (by omega), Nat.add_sub_cancel_left]
  · rwa [List.getElem?_append_right (by omega), Nat.add_assoc, Nat.add_sub_cancel_left]

theorem getLast?_of_append_right {α : Type} {taken rest : List α} {x : α} (h : rest.getLast? = some x) :
    (taken ++ rest).getLast? = some x := by
  rw [List.getLast?_append, h]; rfl

/-! ### The event queue (R151, R153) -/

theorem EventQueue.accounts.take {q : EventQueue} (h : q.accounts) {taken rest : List Event}
    (hsplit : taken ++ rest = q.items) : EventQueue.accounts { q with items := rest } := by
  obtain ⟨hseq, hlink, hlast⟩ := h
  rw [← hsplit] at hlink hlast
  exact ⟨hseq, Linked.of_append_right hlink, fun x hx => hlast x (getLast?_of_append_right hx)⟩

theorem Report.produce_accounts {r : Report} (h : r.events.accounts) (pos : Int) (time : Word32) (at_ : Int)
    (body : EventBody) : (r.produce pos time at_ body).events.accounts := by
  obtain ⟨hseq, hlink, hlast⟩ := h
  rcases Nat.lt_or_ge r.events.items.length 64 with hroom | hfull
  · rw [Report.produce_of_room hroom]
    refine ⟨(BitVec.add_zero _).symm, Linked.append_singleton hlink fun x hx => ?_, fun x hx => ?_⟩
    · rw [hlast x hx, hseq, BitVec.add_assoc, BitVec.add_comm r.events.lost, ← BitVec.add_assoc]
    · rw [List.getLast?_append, List.getLast?_singleton, Option.some_or, Option.some.injEq] at hx
      rw [← hx]
  · rw [Report.produce_of_full hfull]
    refine ⟨?_, hlink, hlast⟩
    change r.events.seq + 1 = r.events.lastStored + (r.events.lost + 1)
    rw [hseq, BitVec.add_assoc]

@[simp] theorem Report.produce_spans (r : Report) (pos : Int) (time : Word32) (at_ : Int) (body : EventBody) :
    (r.produce pos time at_ body).spans = r.spans := by
  simp only [Report.produce]; split <;> rfl

@[simp] theorem Report.degrade_spans (r : Report) (pos : Int) (time : Word32) (spanOpen : Bool) (c : FaultCode)
    (v : FaultValue) : (r.degrade pos time spanOpen c v).spans = r.spans := by
  simp only [Report.degrade]; split <;> simp [Report.count]

theorem Report.degrade_accounts {r : Report} (h : r.events.accounts) (pos : Int) (time : Word32) (spanOpen : Bool)
    (c : FaultCode) (v : FaultValue) : (r.degrade pos time spanOpen c v).events.accounts := by
  simp only [Report.degrade]
  split
  · exact h
  · refine Report.produce_accounts ?_ _ _ _ _
    exact h

theorem State.raise_accounts {s : State} (h : s.rep.events.accounts) (c : FaultCode) (v : FaultValue) :
    (s.raise c v).rep.events.accounts := by
  unfold State.raise
  split
  · exact h
  · exact Report.degrade_accounts h _ _ _ _ _
  · exact h

@[simp] theorem State.raise_spans (c : FaultCode) (v : FaultValue) (s : State) :
    (s.raise c v).rep.spans = s.rep.spans := by
  unfold State.raise
  split
  · rfl
  · exact Report.degrade_spans ..
  · rfl

/-! ### The span queue (R148 to R150) -/

/-- The next record is stored with the losses since the last as its gap, or it is lost itself. -/
theorem Report.storeSpan_accounts {r : Report} {seq : Word32} (h : r.spans.accounts seq) (pos : Int) {x : SpanRec}
    (hx : x.seq = seq + 1) : (r.storeSpan pos x).spans.accounts (seq + 1) := by
  obtain ⟨hseq, hlink, hlast⟩ := h
  have hnext : seq + 1 = r.spans.lastStored + 1 + r.spans.lost := by
    rw [hseq, BitVec.add_assoc, BitVec.add_comm r.spans.lost, ← BitVec.add_assoc]
  simp only [Report.storeSpan]
  split
  · refine ⟨by rw [hx]; exact (BitVec.add_zero _).symm, ?_⟩
    have hwaiting : SpanQueue.waiting
          { r.spans with items := r.spans.items ++ [{ x with gap := r.spans.lost }], lastStored := x.seq, lost := 0 } = []
        ∨ SpanQueue.waiting
          { r.spans with items := r.spans.items ++ [{ x with gap := r.spans.lost }], lastStored := x.seq, lost := 0 } =
          r.spans.waiting ++ [{ x with gap := r.spans.lost }] := by
      simp only [SpanQueue.waiting]
      split
      · cases r.spans.items <;> simp
      · exact .inr rfl
    rcases hwaiting with hw | hw <;> rw [hw]
    · exact ⟨by simp, by simp⟩
    · refine ⟨Linked.append_singleton hlink fun y hy => ?_, fun y hy => ?_⟩
      · rw [hlast y hy, ← hnext, hx]
      · rw [List.getLast?_append, List.getLast?_singleton, Option.some_or, Option.some.injEq] at hy
        rw [← hy]
  · refine ⟨?_, hlink, hlast⟩
    change seq + 1 = r.spans.lastStored + (r.spans.lost + 1)
    rw [hseq, BitVec.add_assoc]

@[simp] theorem Report.storeSpan_events (r : Report) (pos : Int) (x : SpanRec) :
    (r.storeSpan pos x).events = r.events := by
  simp only [Report.storeSpan]; split <;> rfl

/-- The records that wait account for every loss, whatever else the queue holds. -/
theorem SpanQueue.accounts.waiting_changed {q q' : SpanQueue} {seq : Word32} (h : q.accounts seq)
    (hstored : q'.lastStored = q.lastStored) (hlost : q'.lost = q.lost) {taken : List SpanRec}
    (hsplit : taken ++ q'.waiting = q.waiting) : q'.accounts seq := by
  obtain ⟨hseq, hlink, hlast⟩ := h
  rw [← hsplit] at hlink hlast
  exact ⟨by rw [hseq, hstored, hlost], Linked.of_append_right hlink,
    fun x hx => hstored ▸ hlast x (getLast?_of_append_right hx)⟩

/-- R149: the report of the oldest record has begun. -/
theorem SpanQueue.accounts.fly {q : SpanQueue} {seq : Word32} (h : q.accounts seq) (hground : q.inFlight = false) :
    SpanQueue.accounts seq { q with inFlight := true } := by
  refine h.waiting_changed rfl rfl (taken := q.items.take 1) ?_
  simp only [SpanQueue.waiting, hground, Bool.false_eq_true, if_true, if_false]
  exact List.take_append_drop 1 q.items

theorem SpanQueue.waiting_landed (q : SpanQueue) : q.landed.waiting = q.waiting := by
  unfold SpanQueue.landed SpanQueue.waiting
  split <;> simp_all

theorem SpanQueue.accounts.landed {q : SpanQueue} {seq : Word32} (h : q.accounts seq) : q.landed.accounts seq := by
  refine h.waiting_changed ?_ ?_ (taken := []) q.waiting_landed
  all_goals unfold SpanQueue.landed; split <;> rfl

/-- R150: a fetch leaves the in-flight record and the records it did not take. -/
theorem SpanQueue.waiting_fetched (q : SpanQueue) {taken rest : List SpanRec} (hsplit : taken ++ rest = q.waiting) :
    SpanQueue.waiting { q with items := q.flying ++ rest } = rest := by
  unfold SpanQueue.waiting SpanQueue.flying at *
  split
  · next hfly =>
    rw [if_pos hfly] at hsplit
    cases hitems : q.items with
    | nil => simp_all
    | cons x xs => simp
  · rfl

end Sys2Proof.Machine
end

section
/-! What every command keeps: the relation between a state and the next one. -/

namespace Sys2Proof.Machine

/-! ### The invariants, block by block -/

/-- R42, R44, R45: the bounds of the Odometer Interface. -/
def Odo.Bounded (o : Odo) : Prop :=
  o.phaseLevel ≤ 16 ∧ within (-100000) 100000 o.speed ∧ within (-9223372036854775808) 9223372036854775807 o.acc

/-- R162: the widths of the receive error counters. -/
def Link.CountersFit (l : Link) : Prop :=
  l.errGap ≤ 65535 ∧ l.errLength ≤ 65535 ∧ l.errByte ≤ 65535 ∧ l.errCrc ≤ 65535

/-- R4, R12 for both heads. -/
def headsAgree (p : Pair HeadLink) : Prop := p.a.consistent ∧ p.b.consistent

/-- The exposure outputs and timers in a run state. -/
def Expo.Safe (run : RunState) (e : Expo) : Prop :=
  ((e.expSync = true ↔ e.state = .window) ∧ (e.state ≠ .window → e.lasDrv = false)
      ∧ (e.burst.isSome = true ↔ e.state = .window) ∧ (e.stuckDue.isSome = true ↔ e.state = .window)
      ∧ (e.blankDue.isSome = true ↔ e.state = .blank))
    ∧ (run = .stopped →
        e.state ≠ .arming ∧ e.state ≠ .window ∧ e.chgEn = false ∧ e.guardDue = none ∧ e.periodDue = none)

/-- Span, candidate and monitors in a run state. -/
def SpanBuilder.Follows (run : RunState) (b : SpanBuilder) : Prop :=
  (b.opened.isSome = true ↔ run = .measuring)
    ∧ (b.candidate.isSome = true ↔ b.provisional.isSome = true)
    ∧ (b.candidate.isSome = true → run = .armed ∨ run = .measuring)
    ∧ (run ≠ .measuring → ∀ k : Slot, b.monitors.get k = .closed)

/-- The marker channels and the mast source in a run state. -/
def Markers.IdleIn (run : RunState) (m : Markers) : Prop :=
  run = .stopped → (∀ k : Marker, (m.channels.get k).state = .idle) ∧ m.mast.state = .idle

/-- What holds of the blocks whatever the run state is: the waiting commands stay, and the bounds, the wire ids and the
numbers of the queues are kept. -/
structure State.KeepsBlocks (s t : State) : Prop where
  pending : t.pending = s.pending := by simp
  table : s.table.length ≤ 4 → t.table.length ≤ 4 := by simp
  report : s.rep.Fine → t.rep.Fine := by (intro h; simp [h])
  odo : s.odo.Bounded → t.odo.Bounded := by simp
  heads : headsAgree s.heads → headsAgree t.heads := by simp
  skipped : s.expo.skipped ≤ 4294967295 → t.expo.skipped ≤ 4294967295 := by simp
  number : s.run.number ≤ 65535 → t.run.number ≤ 65535 := by simp
  counters : s.link.CountersFit → t.link.CountersFit := by simp
  ids : s.trk.idsDistinct → t.trk.idsDistinct := by simp
  events : s.rep.events.accounts → t.rep.events.accounts := by simp
  records : s.rep.spans.accounts s.span.seq → t.rep.spans.accounts t.span.seq := by simp

/-- Besides, what the exposure, the spans and the markers owe to the run state is kept. -/
structure State.Keeps (s t : State) : Prop extends State.KeepsBlocks s t where
  exposure : s.expo.Safe s.run.state → t.expo.Safe t.run.state := by simp
  spans : s.span.Follows s.run.state → t.span.Follows t.run.state := by simp
  markers : s.mark.IdleIn s.run.state → t.mark.IdleIn t.run.state := by simp

theorem State.KeepsBlocks.trans {s t u : State} (h : s.KeepsBlocks t) (k : t.KeepsBlocks u) : s.KeepsBlocks u where
  pending := k.pending.trans h.pending
  table := k.table ∘ h.table
  report := k.report ∘ h.report
  odo := k.odo ∘ h.odo
  heads := k.heads ∘ h.heads
  skipped := k.skipped ∘ h.skipped
  number := k.number ∘ h.number
  counters := k.counters ∘ h.counters
  ids := k.ids ∘ h.ids
  events := k.events ∘ h.events
  records := k.records ∘ h.records

theorem State.Keeps.trans {s t u : State} (h : s.Keeps t) (k : t.Keeps u) : s.Keeps u where
  toKeepsBlocks := h.toKeepsBlocks.trans k.toKeepsBlocks
  exposure := k.exposure ∘ h.exposure
  spans := k.spans ∘ h.spans
  markers := k.markers ∘ h.markers

theorem State.Keeps.refl (s : State) : s.Keeps s where

/-! ### One block changed -/

/-- The blocks that no invariant speaks of. -/
theorem State.Keeps.other {s t : State} (h : s.Keeps t) {clock free : Nat} {pins : PinLevels} {att : Attitude}
    {live : Live} {cal : Calibration} {cfg : Groups} :
    s.Keeps { t with clock := clock, free := free, pins := pins, att := att, live := live, cal := cal, cfg := cfg } :=
  h.trans {}

theorem State.Keeps.link {s t : State} (h : s.Keeps t) {l : Link} (hl : t.link.CountersFit → l.CountersFit) :
    s.Keeps { t with link := l } :=
  h.trans { counters := hl }

theorem State.Keeps.heads_changed {s t : State} (h : s.Keeps t) {p : Pair HeadLink}
    (hp : headsAgree t.heads → headsAgree p) : s.Keeps { t with heads := p } :=
  h.trans { heads := hp }

theorem State.Keeps.table_changed {s t : State} (h : s.Keeps t) {l : List Entry}
    (hl : t.table.length ≤ 4 → l.length ≤ 4) : s.Keeps { t with table := l } :=
  h.trans { table := hl }

theorem State.Keeps.expo {s t : State} (h : s.Keeps t) {e : Expo}
    (he : t.expo.Safe t.run.state → e.Safe t.run.state) (hskip : t.expo.skipped ≤ 4294967295 → e.skipped ≤ 4294967295) :
    s.Keeps { t with expo := e } :=
  h.trans { exposure := he, skipped := hskip }

theorem State.Keeps.odo_changed {s t : State} (h : s.Keeps t) {o : Odo} (ho : t.odo.Bounded → o.Bounded) :
    s.Keeps { t with odo := o } :=
  h.trans { odo := ho }

theorem State.Keeps.mark {s t : State} (h : s.Keeps t) {m : Markers}
    (hm : t.mark.IdleIn t.run.state → m.IdleIn t.run.state) : s.Keeps { t with mark := m } :=
  h.trans { markers := hm }

theorem State.Keeps.trk {s t : State} (h : s.Keeps t) {k : Tracker} (hk : t.trk.idsDistinct → k.idsDistinct) :
    s.Keeps { t with trk := k } :=
  h.trans { ids := hk }

theorem State.Keeps.span {s t : State} (h : s.Keeps t) {b : SpanBuilder}
    (hb : t.span.Follows t.run.state → b.Follows t.run.state) (hseq : b.seq = t.span.seq) :
    s.Keeps { t with span := b } :=
  h.trans { spans := hb, records := fun ha => by rw [hseq]; exact ha }

theorem State.Keeps.rep {s t : State} (h : s.Keeps t) {r : Report} (hfine : t.rep.Fine → r.Fine)
    (hevents : t.rep.events.accounts → r.events.accounts)
    (hrecords : t.rep.spans.accounts t.span.seq → r.spans.accounts t.span.seq) : s.Keeps { t with rep := r } :=
  h.trans { report := hfine, events := hevents, records := hrecords }

/-! ### Time, faults and events -/

theorem State.Keeps.advanceTo {s t : State} (h : s.Keeps t) (due : Nat) : s.Keeps (t.advanceTo due) := h.other

theorem State.Keeps.seeRsv {s t : State} (h : s.Keeps t) (level : Bool) : s.Keeps (t.seeRsv level) := h.other

theorem State.Keeps.raise {s t : State} (h : s.Keeps t) (c : FaultCode) (v : FaultValue) : s.Keeps (t.raise c v) :=
  h.trans { events := fun ha => State.raise_accounts ha c v }

theorem State.Keeps.emitAt {s t : State} (h : s.Keeps t) (at_ : Int) (b : EventBody) : s.Keeps (t.emitAt at_ b) :=
  h.rep (·.produce _ _ _ _) (Report.produce_accounts · _ _ _ _) fun ha => by simpa using ha

theorem State.Keeps.emit {s t : State} (h : s.Keeps t) (b : EventBody) : s.Keeps (t.emit b) := h.emitAt t.pos b

theorem State.Keeps.emitEach {s : State} (es : List PlacedEvent) :
    ∀ {t : State}, s.Keeps t → s.Keeps (State.emitEach es t) := by
  induction es with
  | nil => exact id
  | cons e es ih => exact fun h => ih (h.emitAt e.position e.body)

theorem State.Keeps.emitAllAt {s t : State} (h : s.Keeps t) (at_ : Int) (bs : List EventBody) :
    s.Keeps (State.emitAllAt at_ bs t) :=
  .emitEach _ h

/-! ### The transmit arbiter, requests and replies (R149, R150, R153, R163 to R166) -/

theorem State.Keeps.events_taken {s t : State} (h : s.Keeps t) {taken rest : List Event}
    (hsplit : taken ++ rest = t.rep.events.items) :
    s.Keeps { t with rep := { t.rep with events := { t.rep.events with items := rest } } } := by
  have hlen := congrArg List.length hsplit
  rw [List.length_append] at hlen
  have hrest : rest.length ≤ t.rep.events.items.length := by omega
  exact h.rep (fun hf => ⟨hf.spans, Nat.le_trans hrest hf.events, hf.flight, hf.records, hf.counts⟩)
    (fun ha => ha.take hsplit) id

theorem State.Keeps.begin {s t : State} (h : s.Keeps t) (f : Frame) : s.Keeps (t.begin f) := h.link id

theorem State.Keeps.reply {s t : State} (h : s.Keeps t) (f : Frame) : s.Keeps (t.reply f) := h.link id

theorem State.Keeps.accept {s t : State} (h : s.Keeps t) (kind : Byte) (fields : List Byte) :
    s.Keeps (t.accept kind fields) := h.link id

theorem State.Keeps.refuse {s t : State} (h : s.Keeps t) (kind : Byte) (status : Status) :
    s.Keeps (t.refuse kind status) := h.link id

theorem State.Keeps.refuseValue {s t : State} (h : s.Keeps t) (kind : Byte) (index : Nat) :
    s.Keeps (t.refuseValue kind index) := h.link id

theorem State.Keeps.hostHunt {s t : State} (h : s.Keeps t) : s.Keeps t.hostHunt := h.link id

theorem State.Keeps.offerReports {s t : State} (h : s.Keeps t) : s.Keeps t.offerReports := by
  unfold State.offerReports
  split
  · split
    · exact (h.events_taken (takeFitting_spec Event.size eventCapacity 1023 t.rep.events.items).1).begin _
    · split
      · next r _ hitems =>
        split
        · exact h
        · next hground =>
          have hheld : t.rep.spans.items ≠ [] := hitems ▸ List.cons_ne_nil _ _
          refine .begin ?_ _
          refine h.rep (fun hf => ?_) id fun ha => ?_
          · exact ⟨hf.spans, hf.events, fun _ => hheld, hf.records, hf.counts⟩
          · exact ha.fly (Bool.eq_false_iff.mpr hground)
      · exact h
  · exact h

theorem State.Keeps.arbitrate {s t : State} (h : s.Keeps t) : s.Keeps t.arbitrate := by
  unfold State.arbitrate
  repeat' split
  all_goals first
    | exact h
    | exact h.offerReports
    | exact h.link id

theorem State.Keeps.settle {s t : State} (h : s.Keeps t) : s.Keeps t.settle :=
  h.arbitrate.rep (·.causes _ _ _ _ _) id id

theorem State.Keeps.overrun {s t : State} (h : s.Keeps t) (kind : Byte) : s.Keeps (t.hostHunt.overrun kind) :=
  h.hostHunt.raise _ _

theorem State.Keeps.wholeFrame {s : State} (kind : Byte) {act : State → State}
    (hact : ∀ t, s.Keeps t → s.Keeps (act t)) : s.Keeps (s.wholeFrame kind act) :=
  have h := State.Keeps.refl s
  State.wholeFrame_cases h h.hostHunt (h.overrun kind) fun _ _ => hact _ h.hostHunt

theorem State.Keeps.request {s : State} (kind : Byte) (lengthOk : Bool) {act : State → State}
    (hact : ∀ t, s.Keeps t → s.Keeps (act t)) : s.Keeps (s.request kind lengthOk act) :=
  have h := State.Keeps.refl s
  State.request_cases h h.hostHunt (h.overrun kind) (h.hostHunt.refuse kind _) (h.hostHunt.refuse kind _)
    fun _ _ => hact _ h.hostHunt

theorem State.Keeps.setInStopped {α : Type} {s t : State} (h : s.Keeps t) (set : Checked α)
    (apply : α → Groups → Groups) : s.Keeps (t.setInStopped set apply) := by
  unfold State.setInStopped
  repeat' split
  · exact h.refuseValue _ _
  · exact h.other.accept _ _
  · exact h.refuse _ _

theorem State.Keeps.setOrStage {α : Type} {s t : State} (h : s.Keeps t) (set : Checked α)
    (apply stage : α → Groups → Groups) : s.Keeps (t.setOrStage set apply stage) := by
  unfold State.setOrStage
  repeat' split
  · exact h.refuseValue _ _
  · exact h.other.accept _ _
  · exact h.other.reply _

theorem State.Keeps.fetchSpans {s t : State} (h : s.Keeps t) (max : Nat) : s.Keeps (t.fetchSpans max) := by
  have hsplit := (takeFitting_spec SpanRec.size (min max spanCapacity) spanRoom t.rep.spans.waiting).1
  refine .accept ?_ _ _
  refine h.rep (fun hf => ?_) id fun ha => ?_
  · exact Report.Fine.fetchSpans_keeps hf max
  · exact ha.waiting_changed rfl rfl (by rw [SpanQueue.waiting_fetched _ hsplit]; exact hsplit)

theorem State.Keeps.fetchEvents {s t : State} (h : s.Keeps t) (max : Nat) : s.Keeps (t.fetchEvents max) :=
  (h.events_taken (takeFitting_spec Event.size (min max eventCapacity) eventRoom t.rep.events.items).1).accept _ _

theorem Report.pulseAfter_eq (now : Nat) (cfg : ReportingSet) (cleared : Bool) (r : Report) :
    ∃ due, r.pulseAfter now cfg cleared = { r with pulseDue := due } := by
  unfold Report.pulseAfter
  split
  · exact ⟨_, rfl⟩
  · exact ⟨r.pulseDue, rfl⟩

theorem State.Keeps.acknowledge {s t : State} (h : s.Keeps t) (named : Causes) : s.Keeps (t.acknowledge named) := by
  obtain ⟨due, hpulse⟩ := (t.rep.acknowledge named).pulseAfter_eq t.clock t.cfg.reporting (t.rep.clearsSome named)
  simp only [State.acknowledge, hpulse]
  refine .accept ?_ _ _
  exact h.rep (·.causes _ _ _ _ _) id id

theorem State.Keeps.endFrame {s t : State} (h : s.Keeps t) (f : Frame) : s.Keeps (t.endFrame f) := by
  unfold State.endFrame
  have hidle : s.Keeps { t with link := { t.link with tx := none } } := h.link id
  dsimp only
  split
  · next hkind =>
    refine hidle.rep (fun hf => ?_) id (·.landed)
    have := Report.Fine.endFrame_keeps (s := t) hf f
    rwa [State.endFrame, if_pos hkind] at this
  · exact hidle

theorem State.Keeps.faults_mapped {s t : State} (h : s.Keeps t) {f : FaultRecord → FaultRecord}
    (hf : ∀ x, x.count ≤ 65535 → (f x).count ≤ 65535) :
    s.Keeps { t with rep := { t.rep with faults := t.rep.faults.map f } } :=
  h.rep (·.map hf) id id

theorem Link.CountersFit.countError {l : Link} (h : l.CountersFit) (r : LinkReason) : (l.countError r).CountersFit := by
  obtain ⟨hgap, hlength, hbyte, hcrc⟩ := h
  cases r <;> simp only [Link.CountersFit, Link.countError, satAdd] <;> omega

theorem State.Keeps.abandonHostFrame {s t : State} (h : s.Keeps t) (r : LinkReason) : s.Keeps (t.abandonHostFrame r) := by
  unfold State.abandonHostFrame
  split
  · exact .raise (.link h fun hl => Link.CountersFit.countError (l := t.hostHunt.link) hl r) _ _
  · exact h

end Sys2Proof.Machine
end

section
/-! The wire ids through the eight steps of a scan (R88, R103). -/

namespace Sys2Proof.Machine

/-! ### Four like things -/

theorem Four.get_set {α : Type} (f : Four α) (i j : Ix) (x : α) : (f.set i x).get j = if j = i then x else f.get j := by
  cases i <;> cases j <;> rfl

@[simp] theorem Four.get_set_self {α : Type} (f : Four α) (i : Ix) (x : α) : (f.set i x).get i = x := by
  rw [Four.get_set, if_pos rfl]

theorem Four.get_set_ne {α : Type} (f : Four α) {i j : Ix} (h : j ≠ i) (x : α) : (f.set i x).get j = f.get j := by
  rw [Four.get_set, if_neg h]

@[simp] theorem Four.get_map {α β : Type} (g : α → β) (f : Four α) (i : Ix) : (f.map g).get i = g (f.get i) := by
  cases i <;> rfl

@[simp] theorem Four.get_tabulate {α : Type} (f : Ix → α) (i : Ix) : (Four.tabulate f).get i = f i := by cases i <;> rfl

@[simp] theorem Four.get_const {α : Type} (x : α) (i : Ix) : (Four.const x).get i = x := by cases i <;> rfl

theorem Four.any_toList_iff {α : Type} (f : Four α) (p : α → Bool) : f.toList.any p = true ↔ ∃ k, p (f.get k) = true := by
  simp only [Four.toList, List.any_cons, List.any_nil, Bool.or_false, Bool.or_eq_true]
  constructor
  · rintro (h | h | h | h)
    exacts [⟨.n0, h⟩, ⟨.n1, h⟩, ⟨.n2, h⟩, ⟨.n3, h⟩]
  · rintro ⟨k, h⟩
    cases k <;> simp only [Four.get] at h <;> simp [h]

theorem Ix.mem_all (k : Ix) : k ∈ Ix.all := by cases k <;> decide

/-! ### Wire ids (R103) -/

/-- An id that the counter can hold. -/
def IdInRange (n : Nat) : Prop := 1 ≤ n ∧ n ≤ 65535

theorem idAfter_inRange (n : Nat) : IdInRange (idAfter n) := by
  unfold IdInRange idAfter; split <;> omega

/-- The wire ids of the tracks together with the counter. -/
def IdsDistinct (tracks : Four Track) (nextId : Nat) : Prop :=
  Tracker.idsDistinct { tracks := tracks, nextId := nextId, lastScan := 0 }

theorem Tracker.idsDistinct_iff (t : Tracker) : t.idsDistinct ↔ IdsDistinct t.tracks t.nextId := Iff.rfl

/-- Only the wires, their ids and the counter matter. -/
theorem IdsDistinct.congr {ts us : Four Track} {n : Nat} (h : IdsDistinct ts n)
    (hw : ∀ k, (us.get k).state.isWire = (ts.get k).state.isWire) (hid : ∀ k, (us.get k).wireId = (ts.get k).wireId) :
    IdsDistinct us n := by
  obtain ⟨hn, hsome, hnone, hne⟩ := h
  refine ⟨hn, fun k => ?_, fun k => ?_, fun j k => ?_⟩ <;> simp only [hw, hid]
  · exact hsome k
  · exact hnone k
  · exact hne j k

theorem IdsDistinct.set_same {ts : Four Track} {n : Nat} (h : IdsDistinct ts n) {k : Slot} {t : Track}
    (hw : t.state.isWire = (ts.get k).state.isWire) (hid : t.wireId = (ts.get k).wireId) : IdsDistinct (ts.set k t) n := by
  refine h.congr (fun j => ?_) fun j => ?_ <;> rw [Four.get_set] <;> split <;> simp_all

/-- A track that is no wire has no id. -/
theorem IdsDistinct.set_no_wire {ts : Four Track} {n : Nat} (h : IdsDistinct ts n) {k : Slot} {t : Track}
    (hw : t.state.isWire = false) (hid : t.wireId = none) : IdsDistinct (ts.set k t) n := by
  obtain ⟨hn, hsome, hnone, hne⟩ := h
  refine ⟨hn, fun j => ?_, fun j => ?_, fun i j => ?_⟩
  · simp only [Four.get_set]
    split
    · simp [hw]
    · exact hsome j
  · simp only [Four.get_set]
    split
    · exact fun _ => hid
    · exact hnone j
  · simp only [Four.get_set]
    split <;> split <;> simp_all

/-- A wire may take an id that no wire holds. -/
theorem IdsDistinct.set_wire {ts : Four Track} {n id : Nat} (h : IdsDistinct ts n) {k : Slot} {t : Track}
    (hid : t.wireId = some id) (hr : IdInRange id) (hfree : idHeld ts id = false) (hw : t.state.isWire = true) :
    IdsDistinct (ts.set k t) (idAfter id) := by
  obtain ⟨-, hsome, hnone, hne⟩ := h
  have hother : ∀ j, (ts.get j).state.isWire = true → (ts.get j).wireId ≠ some id := fun j hj heq => by
    have : idHeld ts id = true := (Four.any_toList_iff _ _).mpr ⟨j, by simp [hj, heq]⟩
    rw [hfree] at this
    cases this
  refine ⟨idAfter_inRange id, fun j => ?_, fun j => ?_, fun i j => ?_⟩
  · simp only [Four.get_set]
    split
    · exact fun _ => ⟨id, hid, hr⟩
    · exact hsome j
  · simp only [Four.get_set]
    split
    · simp [hw]
    · exact hnone j
  · simp only [Four.get_set]
    split
    · split
      · simp_all
      · next hj => exact fun _ _ hwj heq => hother j hwj (by rw [← heq, hid])
    · split
      · exact fun _ hwi _ heq => hother i hwi (by rw [heq, hid])
      · exact hne i j

theorem idHeld_eq_true_iff (ts : Four Track) (n : Nat) :
    idHeld ts n = true ↔ ∃ k, (ts.get k).state.isWire = true ∧ (ts.get k).wireId = some n := by
  simp only [idHeld, Four.any_toList_iff, Bool.and_eq_true, decide_eq_true_eq]

/-- Five slots are not all different. -/
theorem not_five_slots {k a b c d : Ix} : ¬ [k, a, b, c, d].Nodup := fun h => by
  have := (List.Nodup.subperm h (l₂ := Ix.all) fun x _ => Ix.mem_all x).length_le
  simp [Ix.all] at this

/-- With one slot that is no wire, three ids are held at most, so one of four that follow one another is free. -/
theorem freeId_not_held {ts : Four Track} {n : Nat} (hn : IdInRange n) {k : Slot} (hk : (ts.get k).state.isWire = false) :
    idHeld ts (freeId ts 4 n) = false ∧ IdInRange (freeId ts 4 n) := by
  have h1 := idAfter_inRange n
  have h2 := idAfter_inRange (idAfter n)
  have h3 := idAfter_inRange (idAfter (idAfter n))
  simp only [freeId]
  cases e0 : idHeld ts n with
  | false => simp [e0, hn]
  | true =>
  cases e1 : idHeld ts (idAfter n) with
  | false => simp [e1, h1]
  | true =>
  cases e2 : idHeld ts (idAfter (idAfter n)) with
  | false => simp [e2, h2]
  | true =>
  cases e3 : idHeld ts (idAfter (idAfter (idAfter n))) with
  | false => simp [e3, h3]
  | true =>
    exfalso
    obtain ⟨a, hwa, ha⟩ := (idHeld_eq_true_iff _ _).mp e0
    obtain ⟨b, hwb, hb⟩ := (idHeld_eq_true_iff _ _).mp e1
    obtain ⟨c, hwc, hc⟩ := (idHeld_eq_true_iff _ _).mp e2
    obtain ⟨d, hwd, hd⟩ := (idHeld_eq_true_iff _ _).mp e3
    have hne : ∀ {x y : Slot} {i j : Nat}, (ts.get x).wireId = some i → (ts.get y).wireId = some j → i ≠ j → x ≠ y := by
      rintro x y i j hx hy hij rfl
      exact hij (Option.some.inj (hx.symm.trans hy))
    have hwire : ∀ {x : Slot}, (ts.get x).state.isWire = true → k ≠ x := by
      rintro x hx rfl
      rw [hk] at hx
      cases hx
    have hids : n ≠ idAfter n ∧ n ≠ idAfter (idAfter n) ∧ n ≠ idAfter (idAfter (idAfter n))
        ∧ idAfter n ≠ idAfter (idAfter n) ∧ idAfter n ≠ idAfter (idAfter (idAfter n))
        ∧ idAfter (idAfter n) ≠ idAfter (idAfter (idAfter n)) := by
      simp only [IdInRange, idAfter] at *
      repeat' split
      all_goals omega
    obtain ⟨n01, n02, n03, n12, n13, n23⟩ := hids
    refine not_five_slots (k := k) (a := a) (b := b) (c := c) (d := d) ?_
    simp [hwire hwa, hwire hwb, hwire hwc, hwire hwd, hne ha hb n01, hne ha hc n02, hne ha hd n03, hne hb hc n12,
      hne hb hd n13, hne hc hd n23]

/-! ### The eight steps (R91) -/

/-- The wire ids of what the steps have made so far. -/
def Processing.Ids (p : Processing) : Prop := IdsDistinct p.tracks p.nextId

theorem Processing.Ids.hitSlot {p : Processing} (h : p.Ids) (t : TrackingSet) (pos : Int)
    (asg : Four (Option Assigned)) (k : Slot) : (p.hitSlot t pos asg k).Ids := by
  unfold Processing.hitSlot
  split
  · next a _ =>
    unfold Processing.afterHit
    split
    · exact IdsDistinct.set_same h rfl rfl
    · exact IdsDistinct.set_same h rfl rfl
    · next hstate =>
      replace hstate : (p.tracks.get k).state = .coasting := hstate
      exact IdsDistinct.set_same h (by rw [hstate]; rfl) rfl
    · next hstate =>
      replace hstate : (p.tracks.get k).state = .tentative := hstate
      have hk : (p.tracks.get k).state.isWire = false := by rw [hstate]; rfl
      split
      · obtain ⟨hfree, hr⟩ := freeId_not_held h.1 hk
        exact IdsDistinct.set_wire h rfl hr hfree rfl
      · exact IdsDistinct.set_same h rfl rfl
  · exact h

theorem Processing.Ids.missSlot {p : Processing} (h : p.Ids) (t : TrackingSet) (travel : Int)
    (asg : Four (Option Assigned)) (k : Slot) : (p.missSlot t travel asg k).Ids := by
  unfold Processing.missSlot
  split
  · exact h
  · dsimp only
    split
    · exact h
    · exact IdsDistinct.set_no_wire h rfl rfl
    · next hstate =>
      replace hstate : (p.tracks.get k).state = .confirmed := hstate
      exact IdsDistinct.set_same h (by rw [hstate]; rfl) rfl
    · split
      · exact IdsDistinct.set_no_wire h rfl rfl
      · exact IdsDistinct.set_same h rfl rfl

theorem Processing.Ids.startTrack {p : Processing} (h : p.Ids) (pos : Int) (r : Indexed) : (p.startTrack pos r).Ids := by
  unfold Processing.startTrack
  split
  · exact IdsDistinct.set_no_wire h rfl rfl
  · exact h

theorem Processing.Ids.updateMerged {p : Processing} (h : p.Ids) (travel : Int) :
    Processing.Ids { p with tracks := updateMerged travel p.tracks } :=
  IdsDistinct.congr h (fun _ => by simp [Machine.updateMerged]) fun _ => by simp [Machine.updateMerged]

theorem Processing.Ids.endDuplicate {p : Processing} (h : p.Ids) (t : TrackingSet) (k : Slot) :
    (p.endDuplicate t k).Ids := by
  unfold Processing.endDuplicate
  dsimp only
  split
  · next j _ =>
    split
    · next hlt =>
      have hne : k ≠ j := fun he => by simp [he] at hlt
      refine IdsDistinct.set_same (IdsDistinct.set_no_wire h rfl rfl) ?_ ?_ <;> rw [Four.get_set_ne _ hne]
    · exact h
  · exact h

theorem foldl_keeps {α β : Type} {P : α → Prop} {f : α → β → α} (hf : ∀ a b, P a → P (f a b)) (l : List β) {a : α}
    (h : P a) : P (l.foldl f a) := by
  induction l generalizing a with
  | nil => exact h
  | cons b bs ih => exact ih (hf a b h)

/-- R91: the steps keep the wire ids. -/
theorem runSteps_ids {trk : Tracker} {m : Matching} (h : IdsDistinct m.tracks trk.nextId) (t : TrackingSet) (pos : Int) :
    (runSteps t trk pos m).Ids := by
  unfold runSteps
  refine foldl_keeps (fun p k hp => hp.endDuplicate t k) _ (Processing.Ids.updateMerged ?_ _)
  refine foldl_keeps (fun p r hp => hp.startTrack pos r) _ ?_
  refine foldl_keeps (fun p k hp => hp.missSlot t _ _ k) _ ?_
  exact foldl_keeps (fun p k hp => hp.hitSlot t pos _ k) _ h

theorem matchScan_ids {tracks : Four Track} {n : Nat} (h : IdsDistinct tracks n) (t : TrackingSet) (zone : Bool)
    (scan : Scan) : IdsDistinct (matchScan t zone tracks scan).tracks n :=
  h.congr (fun _ => by simp [matchScan, withMerged]) fun _ => by simp [matchScan, withMerged]

end Sys2Proof.Machine
end

section
/-! What every command keeps: spans, tracks and the run (spec 6 to 8). -/

namespace Sys2Proof.Machine

/-! ### The Span Builder within a run state (R115 to R135) -/

theorem SpanBuilder.Follows.reopened {b c : SpanBuilder} (h : b.Follows .measuring) (hopen : c.opened.isSome = true)
    (hcand : c.candidate.isSome = b.candidate.isSome) (hprov : c.provisional.isSome = b.provisional.isSome) :
    c.Follows .measuring :=
  ⟨by simp [hopen], by rw [hcand, hprov]; exact h.2.1, fun _ => .inr rfl, fun hne => absurd rfl hne⟩

theorem SpanBuilder.Follows.congr {b c : SpanBuilder} {run : RunState} (h : b.Follows run)
    (hopen : c.opened.isSome = b.opened.isSome) (hcand : c.candidate.isSome = b.candidate.isSome)
    (hprov : c.provisional.isSome = b.provisional.isSome) (hmon : c.monitors = b.monitors) : c.Follows run := by
  unfold SpanBuilder.Follows
  rw [hopen, hcand, hprov, hmon]
  exact h

theorem SpanBuilder.changeTarget_follows {b : SpanBuilder} {run : RunState} (h : b.Follows run) (t : Target)
    (f : SpanRec → SpanRec) : (b.changeTarget t f).Follows run := by
  cases t <;> exact h.congr (by simp [changeTarget]) rfl (by simp [changeTarget]) rfl

@[simp] theorem SpanBuilder.changeTarget_seq (t : Target) (f : SpanRec → SpanRec) (b : SpanBuilder) :
    (b.changeTarget t f).seq = b.seq := by cases t <;> rfl

/-- R129: nothing is held but the number of the last closed span. -/
theorem SpanBuilder.initial_follows {run : RunState} (h : run ≠ .measuring) (n : Word32) :
    SpanBuilder.Follows run { SpanBuilder.initial with seq := n } :=
  ⟨by simp [SpanBuilder.initial, h], by simp [SpanBuilder.initial], by simp [SpanBuilder.initial],
    fun _ k => by simp [SpanBuilder.initial]⟩

theorem SpanBuilder.foldBack_follows {b : SpanBuilder} {run : RunState} (h : b.Follows run) : b.foldBack.Follows run := by
  obtain ⟨hopen, -, -, hmon⟩ := h
  refine ⟨?_, by simp [foldBack], by simp [foldBack], hmon⟩
  rw [SpanBuilder.foldBack_opened, Option.isSome_map, hopen]

theorem SpanBuilder.reject_follows {b : SpanBuilder} {run : RunState} (h : b.Follows run) : b.reject.Follows run :=
  h.congr (by simp [reject]) rfl rfl rfl

theorem SpanBuilder.accumulate_follows {b : SpanBuilder} {run : RunState} (h : b.Follows run) (o : Outcome) (zone : Bool)
    (wires : Nat) : (b.accumulate o zone wires).Follows run := by
  have hseen : SpanBuilder.Follows run { b with view := viewOf o } := h
  have htaken := fun f => SpanBuilder.changeTarget_follows hseen (b.target o.scan.position) f
  unfold SpanBuilder.accumulate
  dsimp only
  split
  · exact (htaken _).congr (by simp) rfl rfl rfl
  · exact htaken _

theorem SpanBuilder.accumulate_seq (b : SpanBuilder) (o : Outcome) (zone : Bool) (wires : Nat) :
    (b.accumulate o zone wires).seq = b.seq := by
  unfold SpanBuilder.accumulate
  dsimp only
  split <;> simp

theorem State.Keeps.skipInSpan {s t : State} (h : s.Keeps t) : s.Keeps t.skipInSpan :=
  h.span (fun hf => SpanBuilder.changeTarget_follows hf _ _) (SpanBuilder.changeTarget_seq _ _ _)

/-! ### A scan taken (R90, R110, R117 to R134) -/

theorem State.Keeps.closeEndedMonitors {s t : State} (h : s.Keeps t) (o : Outcome) : s.Keeps (t.closeEndedMonitors o) := by
  refine State.Keeps.emitAllAt ?_ _ _
  refine h.span (fun hf => ?_) rfl
  obtain ⟨hopen, hprov, hcand, hmon⟩ := hf
  refine ⟨hopen, hprov, hcand, fun hne k => ?_⟩
  rw [Four.get_tabulate]
  split
  · rfl
  · exact hmon hne k

theorem State.Keeps.testSlotMonitors {s t : State} (h : s.Keeps t) (hrun : t.run.state = .measuring) (o : Outcome)
    (k : Slot) : s.Keeps (t.testSlotMonitors o k) := by
  unfold State.testSlotMonitors
  dsimp only
  split
  · refine State.Keeps.emitEach _ (h.span (fun hf => ?_) ?_)
    · have hraised := fun f => SpanBuilder.changeTarget_follows hf (t.span.target o.scan.position) f
      rw [hrun] at hraised ⊢
      exact (hraised _).reopened ((hraised _).1.mpr rfl) rfl rfl
    · exact SpanBuilder.changeTarget_seq _ _ _
  · exact h
  · exact h

theorem State.Keeps.testMonitors {s t : State} (h : s.Keeps t) (o : Outcome) : s.Keeps (t.testMonitors o) := by
  have hclosed := h.closeEndedMonitors o
  unfold State.testMonitors
  dsimp only
  split
  · next hrun =>
    have hfold := foldl_keeps (P := fun u : State => s.Keeps u ∧ u.run.state = .measuring)
      (f := State.testSlotMonitors o) (fun u k hu => ⟨hu.1.testSlotMonitors hu.2 o k, by simpa using hu.2⟩) Ix.all
      ⟨hclosed, hrun⟩
    exact hfold.1
  · exact hclosed

theorem State.Keeps.watchWires {s t : State} (h : s.Keeps t) (o : Outcome) : s.Keeps (t.watchWires o) := by
  have hwatch : ∀ armed ref, s.Keeps { t with span := { t.span with watchArmed := armed, watchRef := ref } } :=
    fun _ _ => h.span (·.congr rfl rfl rfl rfl) rfl
  unfold State.watchWires
  dsimp only
  repeat' split
  all_goals first
    | exact (hwatch _ _).raise _ _
    | exact hwatch _ _

theorem State.Keeps.takeOutcome {s t : State} (h : s.Keeps t) (o : Outcome) : s.Keeps (t.takeOutcome o) :=
  .watchWires (.testMonitors (h.span (fun hf => SpanBuilder.accumulate_follows hf _ _ _)
    (SpanBuilder.accumulate_seq _ _ _ _)) o) o

theorem State.Keeps.raiseSlotsFull {s : State} (vs : List Int) :
    ∀ {t : State}, s.Keeps t → s.Keeps (State.raiseSlotsFull vs t) := by
  induction vs with
  | nil => exact id
  | cons v vs ih => exact fun h => ih (h.raise _ _)

theorem State.Keeps.track {s t : State} (h : s.Keeps t) (scan : Scan) : s.Keeps (t.track scan).1 := by
  unfold State.track
  dsimp only
  have hsteps := fun hids : t.trk.idsDistinct =>
    runSteps_ids (matchScan_ids hids t.cfg.tracking t.mark.zone scan) t.cfg.tracking scan.position
  generalize runSteps t.cfg.tracking t.trk scan.position _ = p at hsteps ⊢
  exact (State.Keeps.raiseSlotsFull p.full (h.emitAllAt scan.position p.events)).trans
    { ids := fun hids => hsteps (by simpa using hids) }

theorem State.Keeps.processScan {s t : State} (h : s.Keeps t) (scan : Scan) : s.Keeps (t.processScan scan) := by
  unfold State.processScan
  split
  · exact (h.track scan).takeOutcome _
  · exact h

theorem State.Keeps.deliverScan {s t : State} (h : s.Keeps t) (e : Entry) : s.Keeps (t.deliverScan e) := by
  refine State.Keeps.processScan (State.Keeps.other ?_) _
  unfold State.raiseTruncated
  split
  · exact h
  · exact h.raise _ _

theorem State.Keeps.deliverLoop {s : State} (n : Nat) : ∀ {t : State}, s.Keeps t → s.Keeps (State.deliverLoop n t) := by
  induction n with
  | zero => exact id
  | succ n ih =>
    intro t h
    unfold State.deliverLoop
    split
    · next e rest htable =>
      split
      · exact ih (.deliverScan (h.table_changed fun hlen => by rw [htable, List.length_cons] at hlen; omega) e)
      · exact h
    · exact h

theorem State.Keeps.deliver {s t : State} (h : s.Keeps t) : s.Keeps t.deliver := .deliverLoop _ h

/-! ### Closing and opening a span (R116, R128) -/

theorem State.KeepsBlocks.other {s t : State} (h : s.KeepsBlocks t) {clock free : Nat} {pins : PinLevels}
    {att : Attitude} {mark : Markers} {live : Live} {cal : Calibration} {cfg : Groups} :
    s.KeepsBlocks { t with
      clock := clock, free := free, pins := pins, att := att, mark := mark, live := live, cal := cal, cfg := cfg } :=
  h.trans {}

theorem State.KeepsBlocks.span {s t : State} (h : s.KeepsBlocks t) {b : SpanBuilder} (hseq : b.seq = t.span.seq) :
    s.KeepsBlocks { t with span := b } :=
  h.trans { records := fun ha => by rw [hseq]; exact ha }

theorem State.KeepsBlocks.emitAllAt {s t : State} (h : s.KeepsBlocks t) (at_ : Int) (bs : List EventBody) :
    s.KeepsBlocks (State.emitAllAt at_ bs t) :=
  h.trans ((State.Keeps.refl t).emitAllAt at_ bs).toKeepsBlocks

theorem State.KeepsBlocks.closeSpan {s t : State} (h : s.KeepsBlocks t) (reason : CloseReason) (stop : Int)
    (source : Source) : s.KeepsBlocks (t.closeSpan reason stop source) := by
  refine h.trans { events := fun ha => ?_, records := fun ha => ?_ }
  · unfold State.closeSpan
    split
    · simpa using ha
    · exact ha
  · unfold State.closeSpan
    split
    · exact Report.storeSpan_accounts ha _ rfl
    · exact ha

theorem State.KeepsBlocks.openSpan {s t : State} (h : s.KeepsBlocks t) (source : Source) (r : SpanRec) :
    s.KeepsBlocks (t.openSpan source r) := by
  have hchanged : s.KeepsBlocks (if t.cfg.lineTypeChanges then t.changeWireType else t) := by
    split
    · refine State.KeepsBlocks.emitAllAt (h.trans { ids := fun hids => ?_ }) _ _
      exact IdsDistinct.congr hids (fun _ => by simp) fun _ => by simp
    · exact h
  have hopen : ∀ u : State, s.KeepsBlocks u → ∀ (cfg : Groups) (b : SpanBuilder), b.seq = u.span.seq →
      s.KeepsBlocks (State.clearSpanMarks { u with cfg := cfg, span := b }) := fun u hu cfg b hb =>
    (hu.other.span hb).trans { report := fun hf => Report.Fine.map hf fun _ hx => hx, events := id, records := id }
  exact hopen _ hchanged _ _ rfl

@[simp] theorem State.openSpan_opened (source : Source) (r : SpanRec) (s : State) :
    (s.openSpan source r).span.opened.isSome = true := by
  simp [State.openSpan, State.clearSpanMarks]

@[simp] theorem State.openSpan_candidate (source : Source) (r : SpanRec) (s : State) :
    (s.openSpan source r).span.candidate = s.span.candidate := by
  simp only [State.openSpan, State.clearSpanMarks]; split <;> simp [State.changeWireType]

@[simp] theorem State.openSpan_provisional (source : Source) (r : SpanRec) (s : State) :
    (s.openSpan source r).span.provisional = s.span.provisional := by
  simp only [State.openSpan, State.clearSpanMarks]; split <;> simp [State.changeWireType]

@[simp] theorem State.closeSpan_candidate (reason : CloseReason) (stop : Int) (source : Source) (s : State) :
    (s.closeSpan reason stop source).span.candidate = s.span.candidate := by rw [State.closeSpan_eq]

@[simp] theorem State.closeSpan_provisional (reason : CloseReason) (stop : Int) (source : Source) (s : State) :
    (s.closeSpan reason stop source).span.provisional = s.span.provisional := by rw [State.closeSpan_eq]

/-- R126: within MEASURING a span closes and the next one opens. -/
theorem State.Keeps.closeLong {s t : State} (h : s.Keeps t) (hrun : t.run.state = .measuring) (stop : Int) :
    s.Keeps (t.closeLong stop) := by
  refine h.trans { ((State.Keeps.refl t).toKeepsBlocks.closeSpan .longSpan stop .none).openSpan .none _ with
    exposure := by simp, markers := by simp, spans := fun hf => ?_ }
  simp only [State.closeLong_frame]
  rw [hrun] at hf ⊢
  exact hf.reopened (State.openSpan_opened _ _ _) (by simp [State.closeLong]) (by simp [State.closeLong])

theorem State.KeepsBlocks.settleQualified {s t : State} (h : s.KeepsBlocks t) (source : Source) (c : Candidate) :
    s.KeepsBlocks (t.settleQualified source c) := by
  have hopened := fun r => ((h.closeSpan .mast c.position source).span (b := { (t.closeSpan .mast c.position source).span
    with provisional := none, candidate := none }) rfl).openSpan source r
  exact (hopened _).trans ((State.Keeps.refl _).emit _).toKeepsBlocks

/-- R123: after a qualification a span is open, and no candidate is left. -/
theorem State.settleQualified_follows (source : Source) (c : Candidate) (s : State) :
    (s.settleQualified source c).span.Follows .measuring := by
  refine ⟨?_, ?_, fun _ => .inr rfl, fun hne => absurd rfl hne⟩ <;> simp [State.settleQualified]

/-! ### Changes of the run state (R136, R139, R141 to R144) -/

theorem State.KeepsBlocks.changeRun {s t : State} (h : s.KeepsBlocks t) (new : RunState) (cause : RunCause)
    (fc : Option FaultCode) (closed : Option Word32) (furthest : Option Int) :
    s.KeepsBlocks (t.changeRun new cause fc closed furthest) :=
  h.trans
    { number := id
      events := fun ha => Report.produce_accounts ha _ _ _ _
      records := fun ha => by simpa [State.changeRun] using ha }

@[simp] theorem State.changeRun_state (new : RunState) (cause : RunCause) (fc : Option FaultCode)
    (closed : Option Word32) (furthest : Option Int) (s : State) :
    (s.changeRun new cause fc closed furthest).run.state = new := rfl

theorem State.KeepsBlocks.clearTracks {s t : State} (h : s.KeepsBlocks t) : s.KeepsBlocks t.clearTracks := by
  refine h.trans { ids := fun hids => ⟨hids.1, fun k hk => ?_, fun k _ => ?_, fun j _ _ hj => ?_⟩ } <;>
    simp [State.clearTracks, Track.empty, TrackState.isWire] at *

theorem State.KeepsBlocks.tearDownSpans {s t : State} (h : s.KeepsBlocks t) (reason : CloseReason) (stop : Int) :
    s.KeepsBlocks (t.tearDownSpans reason stop) := by
  have hclosed := (h.span (b := t.span.foldBack) rfl).closeSpan reason stop .none
  unfold State.tearDownSpans
  refine .emitAllAt (State.KeepsBlocks.span hclosed ?_) _ _
  rfl

@[simp] theorem State.tearDownSpans_span (reason : CloseReason) (stop : Int) (s : State) :
    (s.tearDownSpans reason stop).span = { SpanBuilder.initial with seq := s.closingNumber.getD s.span.seq } := by
  rw [State.tearDownSpans_eq]

theorem Expo.Safe.of_running {e : Expo} {r r' : RunState} (h : e.Safe r) (hne : r' ≠ .stopped) : e.Safe r' :=
  ⟨h.1, fun hstop => absurd hstop hne⟩

theorem Markers.idleIn_of_running {m : Markers} {r : RunState} (hne : r ≠ .stopped) : m.IdleIn r :=
  fun hstop => absurd hstop hne

theorem State.Keeps.candidateQualified {s t : State} (h : s.Keeps t) (source : Source) :
    s.Keeps (t.candidateQualified source) := by
  unfold State.candidateQualified
  split
  · next c hrun _ =>
    have hblocks := ((State.Keeps.refl t).toKeepsBlocks.settleQualified source c)
    refine h.trans { ((hblocks.span (b := { (t.settleQualified source c).span with
        watchArmed := true, watchRef := (t.settleQualified source c).pos }) rfl).changeRun .measuring .firstMast none none
        none) with exposure := fun he => ?_, spans := fun _ => ?_, markers := fun _ => ?_ }
    · simpa [State.startMeasuring] using he.of_running (r' := .measuring) (by decide)
    · exact (State.settleQualified_follows source c t).congr rfl rfl rfl rfl
    · exact Markers.idleIn_of_running (by simp [State.startMeasuring])
  · next c hrun _ =>
    refine h.trans { ((State.Keeps.refl t).toKeepsBlocks.settleQualified source c) with
      exposure := by simp, markers := by simp, spans := fun _ => ?_ }
    simp only [State.settleQualified_frame, hrun]
    exact State.settleQualified_follows source c t
  · exact h

theorem State.Keeps.candidateAsserted {s t : State} (h : s.Keeps t) (pos : Int) (source : Source) :
    s.Keeps (t.candidateAsserted pos source) := by
  unfold State.candidateAsserted
  split
  · next hacting =>
    split
    · refine .emit ?_ _
      exact h.span (·.congr (by simp) rfl rfl rfl) rfl
    · refine h.span (fun hf => ⟨hf.1, by simp, fun _ => ?_, hf.2.2.2⟩) rfl
      cases hrun : t.run.state <;> simp [hrun, RunState.acting] at hacting ⊢
  · exact h

theorem State.Keeps.candidateFailed {s t : State} (h : s.Keeps t) : s.Keeps t.candidateFailed := by
  have hback : s.Keeps { t with span := t.span.foldBack } := h.span SpanBuilder.foldBack_follows rfl
  unfold State.candidateFailed
  split
  · exact h
  · dsimp only
    split
    · next hrun =>
      have hrejected : s.Keeps { t with span := t.span.foldBack.reject } :=
        h.span (fun hf => SpanBuilder.reject_follows (SpanBuilder.foldBack_follows hf)) rfl
      split
      · exact hrejected.closeLong hrun _
      · exact hrejected
    · exact hback

theorem State.Keeps.checkSpanMaximum {s t : State} (h : s.Keeps t) : s.Keeps t.checkSpanMaximum := by
  unfold State.checkSpanMaximum
  split
  · next r hrun _ =>
    split
    · split
      · exact h.closeLong hrun _
      · next c hc =>
        dsimp only
        split
        · refine State.Keeps.closeLong (t := { t with span := t.span.foldBack.reject }) ?_ hrun _
          refine h.span (fun hf => ?_) rfl
          exact SpanBuilder.reject_follows (SpanBuilder.foldBack_follows hf)
        · exact h.span (·.congr rfl (by simp [hc]) rfl rfl) rfl
    · exact h
  · exact h

theorem State.Keeps.pauseRun {s t : State} (h : s.Keeps t) (furthest : Int) : s.Keeps (t.pauseRun furthest) := by
  unfold State.pauseRun
  split
  · refine h.trans { (((State.Keeps.refl t).toKeepsBlocks.tearDownSpans .reverse furthest).clearTracks.changeRun
      .paused .reverse none t.closingNumber (some furthest)) with
      exposure := fun he => ?_, spans := fun _ => ?_, markers := fun _ => Markers.idleIn_of_running (by simp) }
    · simpa using he.of_running (r' := .paused) (by decide)
    · simpa using SpanBuilder.initial_follows (by decide) _
  · exact h

theorem State.Keeps.resumeRun {s t : State} (h : s.Keeps t) : s.Keeps t.resumeRun := by
  unfold State.resumeRun
  split
  · next hrun =>
    refine h.trans { (State.Keeps.refl t).toKeepsBlocks.changeRun .armed .forwardResumed none none _ with
      exposure := fun he => ?_, spans := fun hf => ?_, markers := fun _ => Markers.idleIn_of_running (by simp) }
    · simpa using he.of_running (r' := .armed) (by decide)
    · rw [hrun] at hf
      obtain ⟨hopen, hprov, -, hmon⟩ := hf
      refine ⟨?_, hprov, fun _ => .inl rfl, fun _ => hmon (by decide)⟩
      simpa using hopen
  · exact h

/-! ### The exposure at the end of a run (R36, R37) -/

theorem Expo.Safe.endExposure {s : State} (h : s.expo.Safe s.run.state) : s.endExposure.expo.Safe s.run.state := by
  obtain ⟨⟨hsync, hlas, hburst, hstuck, hblank⟩, hquiet⟩ := h
  unfold State.endExposure
  cases hstate : s.expo.state <;> simp [hstate, ExpoState.unfinished, Expo.Safe] at * <;> simp_all

theorem Expo.Safe.startGuard {s : State} (h : s.expo.Safe s.run.state) (hrun : s.run.state ≠ .stopped) :
    s.startGuard.expo.Safe s.run.state := by
  unfold State.startGuard
  repeat' split
  all_goals exact ⟨h.1, fun hstop => absurd hstop hrun⟩

theorem State.endExposure_skipped (s : State) : s.endExposure.expo.skipped = s.expo.skipped := by
  unfold State.endExposure; split <;> rfl

theorem State.startGuard_skipped (s : State) : s.startGuard.expo.skipped = s.expo.skipped := by
  unfold State.startGuard; repeat' split
  all_goals rfl

theorem State.Keeps.enterFaulted {s t : State} (h : s.Keeps t) (hrun : t.run.state ≠ .stopped) (c : FaultCode) :
    s.Keeps (t.enterFaulted c) := by
  have hexpo : ∀ u : State, u.expo.Safe u.run.state → u.run.state ≠ .stopped → u.faultExposure.expo.Safe u.run.state := by
    intro u hu hne
    unfold State.faultExposure
    split
    · simpa using Expo.Safe.startGuard (s := u.endExposure) (by simpa using hu.endExposure) (by simpa using hne)
    · exact hu.endExposure
  have hskip : ∀ u : State, u.faultExposure.expo.skipped = u.expo.skipped := by
    intro u
    unfold State.faultExposure
    split <;> simp [State.startGuard_skipped, State.endExposure_skipped]
  have hcleared := ((State.Keeps.refl t).toKeepsBlocks.tearDownSpans .fault t.currentEnd).clearTracks
  have hended : t.KeepsBlocks (State.faultExposure { (t.tearDownSpans .fault t.currentEnd).clearTracks with table := [] }) :=
    hcleared.trans { skipped := fun hs => by rw [hskip]; exact hs, report := fun hf => by simpa using hf }
  refine h.trans { hended.changeRun .faulted .haltingFault (some c) t.closingNumber none with
    exposure := fun he => ?_, spans := fun _ => ?_, markers := fun _ => Markers.idleIn_of_running (by simp [State.enterFaulted]) }
  · have := hexpo { (t.tearDownSpans .fault t.currentEnd).clearTracks with table := [] } (by simpa using he)
      (by simpa using hrun)
    exact this.of_running (by simp [State.enterFaulted])
  · simpa [State.enterFaulted] using SpanBuilder.initial_follows (by decide) _

theorem State.Keeps.raiseHalting {s t : State} (h : s.Keeps t) (c : FaultCode) (v : FaultValue) :
    s.Keeps (t.raiseHalting c v) := by
  unfold State.raiseHalting
  split
  · next hrunning =>
    refine State.Keeps.enterFaulted (h.rep (·.halt _ _ _ _) (fun ha => ?_) fun ha => ?_) ?_ c
    · exact Report.produce_accounts (r := { t.rep.count t.pos c v with faultCause := true }) ha _ _ _ _
    · simpa [Report.halt, Report.count] using ha
    · intro hstop
      simp only at hstop
      rw [hstop] at hrunning
      exact absurd hrunning (by decide)
  · exact h.rep (·.count _ _ _) id id

end Sys2Proof.Machine
end

section
/-! What every command keeps: exposure, heads, markers, travel and attitude (spec 1 to 4), and the commands. -/

namespace Sys2Proof.Machine

/-! ### Skips and triggers (R22 to R29, R39) -/

theorem RunState.ne_stopped_of_acting {r : RunState} (h : r.acting = true) : r ≠ .stopped := by
  rintro rfl
  cases h

theorem State.acting_of_produces {m : TrigMode} {s : State} (h : s.produces m = true) : s.run.state.acting = true := by
  simp only [State.produces, Bool.and_eq_true] at h
  exact h.1

theorem State.Keeps.raiseSkip {s t : State} (h : s.Keeps t) (r : SkipReason) : s.Keeps (t.raiseSkip r) := by
  unfold State.raiseSkip
  split <;> exact h.raise _ _

theorem State.Keeps.skip {s t : State} (h : s.Keeps t) (r : SkipReason) : s.Keeps (t.skip r) := by
  have hcount : s.Keeps { t with expo := { t.expo with skipped := countSkip t.expo.skipped } } :=
    h.expo (fun he => he) fun _ => by simp only [countSkip, satAdd]; omega
  exact (hcount.raiseSkip r).skipInSpan.other

theorem State.Keeps.skipTimes {s : State} (r : SkipReason) (n : Nat) :
    ∀ {t : State}, s.Keeps t → s.Keeps (State.skipTimes r n t) := by
  induction n with
  | zero => exact id
  | succ n ih => exact fun h => ih (h.skip r)

/-- In a run the exposure may take any state that its outputs follow. -/
theorem Expo.Safe.outside_stopped {e f : Expo} {r : RunState} (h : e.Safe r) (hne : r ≠ .stopped)
    (hstate : f.state = e.state) (hsync : f.expSync = e.expSync) (hlas : f.lasDrv = e.lasDrv) (hburst : f.burst = e.burst)
    (hstuck : f.stuckDue = e.stuckDue) (hblank : f.blankDue = e.blankDue) : f.Safe r := by
  refine ⟨?_, fun hstop => absurd hstop hne⟩
  rw [hstate, hsync, hlas, hburst, hstuck, hblank]
  exact h.1

theorem State.Keeps.applyStagedExposure {s t : State} (h : s.Keeps t) (hne : t.run.state ≠ .stopped) :
    s.Keeps t.applyStagedExposure := by
  unfold State.applyStagedExposure
  split
  · exact h
  · exact h.trans { exposure := (·.outside_stopped hne rfl rfl rfl rfl rfl rfl), skipped := id }

/-- R27: from READY, with room in the table, the outputs are those of ARMING. -/
theorem State.Keeps.beginExposure {s t : State} (h : s.Keeps t) (hne : t.run.state ≠ .stopped)
    (hready : t.expo.state = .ready) (hroom : t.table.length < 4) (n : Word32) : s.Keeps (t.beginExposure n) := by
  refine h.trans { table := fun _ => ?_, heads := fun hh => hh, skipped := id, exposure := fun he => ?_ }
  · simp only [State.beginExposure, List.length_append, List.length_singleton]; omega
  · obtain ⟨⟨hsync, hlas, hburst, hstuck, hblank⟩, -⟩ := he
    refine ⟨?_, fun hstop => absurd hstop hne⟩
    simp_all [State.beginExposure]

/-- R27, R28: the conditions under which a trigger is taken. -/
theorem State.triggerSkip_eq_none_iff (s : State) :
    s.triggerSkip = none ↔
      s.expo.state = .ready ∧ s.armLeaving = false ∧ s.pins.rsvRdy = true ∧ s.table.length < 4 := by
  unfold State.triggerSkip tableCapacity
  repeat' split
  all_goals simp_all

theorem State.Keeps.trigger {s t : State} (h : s.Keeps t) (hacting : t.run.state.acting = true) : s.Keeps t.trigger := by
  have hne := RunState.ne_stopped_of_acting hacting
  unfold State.trigger
  split
  · exact h.skip _
  · next hskip =>
    obtain ⟨hready, -, -, hroom⟩ := (State.triggerSkip_eq_none_iff t).mp hskip
    refine State.Keeps.other (State.Keeps.beginExposure (h.applyStagedExposure hne) ?_ ?_ ?_ _)
    · simpa using hne
    · unfold State.applyStagedExposure; split <;> exact hready
    · simpa using hroom

theorem State.Keeps.advanceGrid {s t : State} (h : s.Keeps t) (old : Int) : s.Keeps (t.advanceGrid old) := by
  unfold State.advanceGrid
  split
  · next hproduces =>
    rw [Bool.and_eq_true] at hproduces
    split
    · exact h
    · refine State.Keeps.trigger (.skipTimes _ _ ?_) (by simpa using State.acting_of_produces hproduces.1)
      exact h.expo (fun he => he) id
  · exact h

/-! ### The window (R30 to R36) -/

theorem State.Keeps.raiseStale {s t : State} (h : s.Keeps t) (j : Judged) : s.Keeps (t.raiseStale j) := by
  unfold State.raiseStale
  split
  · exact h
  · exact h.raise _ _
  · exact h.raise _ _

theorem State.Keeps.openWindow {s t : State} (h : s.Keeps t) (harming : t.expo.state = .arming) :
    s.Keeps t.openWindow := by
  have hopen : s.Keeps { t with
      table := changeEntry t.expo.counter (Entry.stamp t.pos t.judged t.strain t.att.held (!t.cal.valid)) t.table
      expo := t.expo.openWindow t.clock t.cfg.exposure } := by
    refine h.trans { table := fun hlen => by simpa [changeEntry] using hlen, skipped := id, exposure := fun he => ?_ }
    obtain ⟨⟨hsync, hlas, hburst, hstuck, hblank⟩, hquiet⟩ := he
    refine ⟨?_, fun hstop => absurd harming (hquiet hstop).1⟩
    simp_all [Expo.openWindow]
  exact hopen.raiseStale _

theorem State.Keeps.closeWindow {s t : State} (h : s.Keeps t) (hrun : t.expo.Safe t.run.state → t.expo.state = .window) :
    s.Keeps t.closeWindow := by
  refine h.trans { table := fun hlen => ?_, skipped := fun hs => ?_, exposure := fun he => ?_ }
  · simpa [State.closeWindow, changeEntry] using hlen
  · rw [State.closeWindow, State.startGuard_skipped]; exact hs
  · have hwindow := hrun he
    obtain ⟨⟨hsync, hlas, hburst, hstuck, hblank⟩, hquiet⟩ := he
    have hne : t.run.state ≠ .stopped := fun hstop => (hquiet hstop).2.1 hwindow
    have hsame : t.closeWindow.run = t.run := by simp
    rw [hsame]
    refine Expo.Safe.startGuard (s := { t with table := _, expo := t.expo.closeWindow t.clock t.cfg.exposure }) ?_ hne
    refine ⟨?_, fun hstop => absurd hstop hne⟩
    by_cases hzero : t.cfg.exposure.blankOut = 0 <;> simp [Expo.closeWindow, hzero]

end Sys2Proof.Machine
end

section
namespace Sys2Proof.Machine

/-! ### Head links (R2, R4, R9 to R12) -/

theorem State.Keeps.changeHead {s t : State} (h : s.Keeps t) (hd : Head) {f : HeadLink → HeadLink}
    (hf : ∀ l : HeadLink, l.consistent → (f l).consistent) : s.Keeps (t.changeHead hd f) := by
  refine h.heads_changed fun hp => ?_
  cases hd
  · exact ⟨hf _ hp.1, hp.2⟩
  · exact ⟨hp.1, hf _ hp.2⟩

theorem HeadLink.consistent.revive (l : HeadLink) : l.revive.consistent := by simp [HeadLink.consistent, HeadLink.revive]

theorem HeadLink.consistent.countSilence {l : HeadLink} (h : l.consistent) : l.countSilence.consistent := by
  obtain ⟨hle, hlost⟩ := h
  cases hlive : l.live with
  | false => simp [HeadLink.consistent, HeadLink.countSilence, satAdd, silenceLimit, hlive] at *; omega
  | true => simp [HeadLink.consistent, HeadLink.countSilence, satAdd, silenceLimit, hlive] at *

theorem State.Keeps.badHeadFrame {s t : State} (h : s.Keeps t) (hd : Head) (r : HeadReason) :
    s.Keeps (t.badHeadFrame hd r) :=
  (h.changeHead hd (f := HeadLink.hunt) fun _ hl => hl).raise _ _

theorem State.Keeps.abandonHeadFrame {s t : State} (h : s.Keeps t) (hd : Head) (r : HeadReason) :
    s.Keeps (t.abandonHeadFrame hd r) := by
  unfold State.abandonHeadFrame
  split
  · exact h.badHeadFrame hd r
  · exact h

theorem State.Keeps.headSilent {s t : State} (h : s.Keeps t) (hd : Head) : s.Keeps (t.headSilent hd) := by
  have hcount := (h.changeHead hd fun _ hl => hl.countSilence).raise .headSilent { qualifier := headCode hd, number := 0 }
  unfold State.headSilent
  dsimp only
  split
  · exact hcount.raise _ _
  · exact hcount

theorem State.Keeps.countIfMissing {s t : State} (h : s.Keeps t) (e : Entry) (hd : Head) :
    s.Keeps (t.countIfMissing e hd) := by
  unfold State.countIfMissing
  split
  · exact h.headSilent hd
  · exact h

theorem changeEntry_length (exposure : Word32) (f : Entry → Entry) (table : List Entry) :
    (changeEntry exposure f table).length = table.length := by simp [changeEntry]

theorem State.Keeps.expireEntry {s t : State} (h : s.Keeps t) (e : Entry) : s.Keeps (t.expireEntry e) := by
  have hmissing : s.Keeps
      (State.countIfMissing e .b (State.countIfMissing e .a
        { t with table := changeEntry e.exposure Entry.timeOut t.table })) :=
    .countIfMissing (.countIfMissing (h.table_changed fun hlen => by rwa [changeEntry_length]) e .a) e .b
  refine State.Keeps.deliver ?_
  unfold State.raiseHeadsLost
  dsimp only
  split
  · exact hmissing.raiseHalting _ _
  · exact hmissing

theorem State.Keeps.takeReturns {s t : State} (h : s.Keeps t) (hd : Head) (f : ReturnsFrame) :
    s.Keeps (t.takeReturns hd f) := by
  have hrevived := h.changeHead hd (f := fun l => l.hunt.revive) fun l _ => HeadLink.consistent.revive l.hunt
  unfold State.takeReturns
  dsimp only
  split
  · split
    · exact .deliver (hrevived.table_changed fun hlen => by rwa [changeEntry_length])
    · exact hrevived.raise _ _
  · exact hrevived.raise _ _

/-! ### Marker Logic (R50 to R57) -/

theorem State.Keeps.takeMastReport {s t : State} (h : s.Keeps t) (r : Option MastReport) :
    s.Keeps (t.takeMastReport r) := by
  unfold State.takeMastReport
  split
  · exact h
  · exact h.candidateAsserted _ _
  · exact h.candidateQualified _
  · split
    · exact h.candidateFailed
    · exact h

/-- What the mast source reports never stops a run. -/
theorem State.takeMastReport_running {s : State} (h : s.run.state ≠ .stopped) (r : Option MastReport) :
    (s.takeMastReport r).run.state ≠ .stopped := by
  unfold State.takeMastReport
  split
  · exact h
  · simpa using h
  · unfold State.candidateQualified
    split
    · simp [State.startMeasuring]
    · simpa using h
    · exact h
  · split
    · simpa using h
    · exact h

theorem State.Keeps.moveMast {s t : State} (h : s.Keeps t) (hne : t.run.state ≠ .stopped) (step : MastStep) :
    s.Keeps (t.moveMast step) :=
  .takeMastReport (h.mark fun _ => Markers.idleIn_of_running hne) _

theorem State.moveMast_running {s : State} (h : s.run.state ≠ .stopped) (step : MastStep) :
    (s.moveMast step).run.state ≠ .stopped :=
  State.takeMastReport_running (s := { s with mark := { s.mark with mast := step.mast } }) h step.report

theorem State.Keeps.setZone {s t : State} (h : s.Keeps t) (zone : Bool) : s.Keeps (t.setZone zone) := by
  unfold State.setZone
  split
  · exact h
  · refine .emit ?_ _
    exact h.mark fun hm => hm

/-- A change of a channel outside STOPPED. -/
theorem State.Keeps.changeChannel {s t : State} (h : s.Keeps t) (hne : t.run.state ≠ .stopped) (m : Marker)
    (f : Channel → Channel) : s.Keeps (t.changeChannel m f) :=
  h.mark fun _ => Markers.idleIn_of_running hne

theorem State.Keeps.handAssertion {s t : State} (h : s.Keeps t) (hne : t.run.state ≠ .stopped) (m : Marker) :
    s.Keeps (t.handAssertion m) := by
  unfold State.handAssertion
  split
  · exact h.moveMast hne _
  · exact h

theorem State.handAssertion_running {s : State} (h : s.run.state ≠ .stopped) (m : Marker) :
    (s.handAssertion m).run.state ≠ .stopped := by
  unfold State.handAssertion
  split
  · exact State.moveMast_running h _
  · exact h

theorem State.Keeps.handQualification {s t : State} (h : s.Keeps t) (hne : t.run.state ≠ .stopped) (m : Marker) :
    s.Keeps (t.handQualification m) := by
  unfold State.handQualification State.zoneQualified State.siteQualified
  repeat' split
  all_goals first
    | exact h
    | exact h.moveMast hne _
    | exact h.setZone _
    | exact h.emit _

theorem State.handQualification_running {s : State} (h : s.run.state ≠ .stopped) (m : Marker) :
    (s.handQualification m).run.state ≠ .stopped := by
  unfold State.handQualification
  repeat' split
  all_goals first
    | exact h
    | exact State.moveMast_running h _
    | simpa using h

theorem State.Keeps.handFailure {s t : State} (h : s.Keeps t) (hne : t.run.state ≠ .stopped) (m : Marker) :
    s.Keeps (t.handFailure m) := by
  unfold State.handFailure
  split
  · exact h.moveMast hne _
  · exact h

theorem State.Keeps.handRelease {s t : State} (h : s.Keeps t) (hne : t.run.state ≠ .stopped) (m : Marker) :
    s.Keeps (t.handRelease m) := by
  unfold State.handRelease State.zoneReleased
  repeat' split
  all_goals first
    | exact h
    | exact h.handFailure hne _
    | exact h.setZone _

theorem State.Keeps.qualifyChannel {s t : State} (h : s.Keeps t) (hne : t.run.state ≠ .stopped) (m : Marker) :
    s.Keeps (t.qualifyChannel m) :=
  (h.changeChannel hne m _).handQualification hne m

theorem State.qualifyChannel_running {s : State} (h : s.run.state ≠ .stopped) (m : Marker) :
    (s.qualifyChannel m).run.state ≠ .stopped :=
  State.handQualification_running (s := s.changeChannel m _) h m

theorem State.Keeps.assertChannel {s t : State} (h : s.Keeps t) (hne : t.run.state ≠ .stopped) (m : Marker) :
    s.Keeps (t.assertChannel m) := by
  unfold State.assertChannel
  split
  · dsimp only
    have hasserted := fun f : Channel → Channel => (h.changeChannel hne m f).handAssertion hne m
    split
    · refine (hasserted _).qualifyChannel ?_ m
      exact State.handAssertion_running (s := t.changeChannel m _) hne m
    · exact hasserted _
  · exact h

theorem State.Keeps.dropChannel {s t : State} (h : s.Keeps t) (hne : t.run.state ≠ .stopped) (m : Marker) :
    s.Keeps (t.dropChannel m) := by
  have hidle := h.changeChannel hne m Channel.toIdle
  unfold State.dropChannel
  dsimp only
  split
  · exact h
  · exact hidle.handFailure hne m
  · exact hidle.handRelease hne m
  · exact hidle

theorem State.Keeps.markerLevel {s t : State} (h : s.Keeps t) (m : Marker) (level : Bool) :
    s.Keeps (t.markerLevel m level) := by
  unfold State.markerLevel
  split
  · exact h
  · next hne =>
    split
    · exact h.assertChannel hne m
    · exact h.dropChannel hne m

theorem State.Keeps.checkChannel {s t : State} (h : s.Keeps t) (hne : t.run.state ≠ .stopped) (m : Marker) :
    s.Keeps (t.checkChannel m) ∧ (t.checkChannel m).run.state ≠ .stopped := by
  unfold State.checkChannel
  dsimp only
  split
  · exact ⟨h.qualifyChannel hne m, State.qualifyChannel_running hne m⟩
  · exact ⟨h, hne⟩

theorem State.Keeps.checkChannels {s t : State} (h : s.Keeps t) : s.Keeps t.checkChannels := by
  unfold State.checkChannels
  split
  · exact h
  · next hne =>
    exact (foldl_keeps (P := fun u : State => s.Keeps u ∧ u.run.state ≠ .stopped)
      (fun u m hu => hu.1.checkChannel hu.2 m) Ix.all ⟨h, hne⟩).1

theorem State.Keeps.setFilter {s t : State} (h : s.Keeps t) (m : Marker) (f : Filter) : s.Keeps (t.setFilter m f) := by
  refine h.mark fun hm hstop => ⟨fun k => ?_, (hm hstop).2⟩
  rw [Four.get_set]
  split
  · exact (hm hstop).1 m
  · exact (hm hstop).1 k

theorem State.Keeps.acceptMarker {s t : State} (h : s.Keeps t) (m : Marker) (level : Bool) :
    s.Keeps (t.acceptMarker m level) := by
  unfold State.acceptMarker
  dsimp only
  split
  · exact (h.setFilter m _).markerLevel m level
  · exact h.setFilter m _

theorem State.Keeps.markerChanged {s t : State} (h : s.Keeps t) (m : Marker) (level : Bool) :
    s.Keeps (t.markerChanged m level) := by
  unfold State.markerChanged
  dsimp only
  split
  · exact h.acceptMarker m level
  · exact h.setFilter m _

/-! ### Travel (R41 to R47) -/

theorem clamp_within {lo hi : Int} (h : lo ≤ hi) (v : Int) : within lo hi (clamp lo hi v) := by
  unfold within clamp
  repeat' split
  all_goals omega

theorem State.Keeps.checkTravel {s t : State} (h : s.Keeps t) : s.Keeps t.checkTravel := by
  have hodo : ∀ o : Odo, o.phaseLevel = t.odo.phaseLevel → o.speed = t.odo.speed → o.acc = t.odo.acc →
      s.Keeps { t with odo := o } := fun o hphase hspeed hacc =>
    h.odo_changed fun ho => by unfold Odo.Bounded; rw [hphase, hspeed, hacc]; exact ho
  unfold State.checkTravel
  split
  · exact h
  · dsimp only
    repeat' split
    · exact (hodo { t.odo.reach t.pos with backTravel := false } rfl rfl rfl).resumeRun
    · exact hodo _ rfl rfl rfl
    · exact (hodo { t.odo.reach t.pos with backTravel := true } rfl rfl rfl).pauseRun _
    · exact hodo _ rfl rfl rfl

theorem State.Keeps.positionChanged {s t : State} (h : s.Keeps t) (old : Int) : s.Keeps (t.positionChanged old) :=
  ((h.checkTravel.advanceGrid old).checkChannels).checkSpanMaximum

theorem State.Keeps.encoderEdge {s t : State} (h : s.Keeps t) (line : EncoderLine) : s.Keeps (t.encoderEdge line) := by
  have hcounted : ∀ up, s.Keeps
      { t.toggleEncoder line with odo := { t.odo with acc := stepAccumulator t.cfg.odometry up t.odo.acc } } := by
    intro up
    have htoggled : s.Keeps (t.toggleEncoder line) := by cases line <;> exact h.other
    refine htoggled.odo_changed fun ho => ?_
    have hsame : (t.toggleEncoder line).odo = t.odo := by simp
    rw [hsame] at ho
    exact ⟨ho.1, ho.2.1, clamp_within (by decide) _⟩
  unfold State.encoderEdge
  dsimp only
  split
  · exact hcounted _
  · exact (hcounted _).positionChanged _

theorem State.Keeps.phaseError {s t : State} (h : s.Keeps t) : s.Keeps t.phaseError := by
  have hraised : ∀ pins v, s.Keeps (State.raise .odoPhase v
      { t with pins := pins, odo := { t.odo with phaseLevel := satAdd phaseLimit t.odo.phaseLevel 1 } }) := by
    intro pins v
    refine State.Keeps.raise ?_ _ _
    refine h.trans { odo := fun ho => ⟨?_, ho.2⟩ }
    simp only [satAdd, phaseLimit]; omega
  unfold State.phaseError
  dsimp only
  split
  · exact (hraised _ _).raiseHalting _ _
  · exact hraised _ _

/-! ### Attitude, temperature and calibration (R60 to R69, R174 to R176) -/

theorem State.Keeps.evaluateTemp {s t : State} (h : s.Keeps t) (reading : Int) : s.Keeps (t.evaluateTemp reading) := by
  unfold State.evaluateTemp
  dsimp only
  split
  · exact h.other
  · refine .raise ?_ _ _
    exact h.other

theorem State.Keeps.discardTemp {s t : State} (h : s.Keeps t) : s.Keeps t.discardTemp := by
  unfold State.discardTemp
  refine .raise ?_ _ _
  exact h.other

theorem State.Keeps.tempReading {s t : State} (h : s.Keeps t) (forward reversed : Int) :
    s.Keeps (t.tempReading forward reversed) := by
  have hend : ∀ {u : State} (f : Frame), s.Keeps u → s.Keeps (u.endCalTemperature f) := fun f hu =>
    hu.trans { counters := id }
  have hpoint : ∀ reference, s.Keeps (t.setTemperaturePoint (chopped forward reversed) reference) := fun _ => h.other
  unfold State.tempReading
  refine State.Keeps.other ?_
  split
  · split
    · exact h.evaluateTemp _
    · exact h.discardTemp
  · split
    · exact hend _ ((hpoint _).evaluateTemp _)
    · refine hend _ ?_
      split
      · exact h.evaluateTemp _
      · exact h.discardTemp

theorem State.Keeps.attitudeReading {s t : State} (h : s.Keeps t) (ch : AdcChannel) (forward reversed : Int) :
    s.Keeps (t.attitudeReading ch forward reversed) := by
  unfold State.attitudeReading
  split
  · refine State.Keeps.other (.raise ?_ _ _)
    exact h.other
  · exact h.other

theorem State.Keeps.completeReading {s t : State} (h : s.Keeps t) (forward reversed : Int) :
    s.Keeps (t.completeReading forward reversed) := by
  unfold State.completeReading
  split
  · exact h.attitudeReading _ _ _
  · exact h.attitudeReading _ _ _
  · exact h.attitudeReading _ _ _
  · exact h.tempReading _ _

theorem State.Keeps.loadCalibration {s t : State} (h : s.Keeps t) : s.Keeps t.loadCalibration := by
  have hloaded : s.Keeps { t with cal := t.cal.load } := h.other
  have hraised : s.Keeps (raiseCalInvalid t.cal.block { t with cal := t.cal.load }) := by
    unfold raiseCalInvalid
    split
    · exact hloaded
    · exact hloaded.raise _ _
    · exact hloaded.raise _ _
  exact hraised.link fun hl => hl

theorem State.Keeps.endStore {s t : State} (h : s.Keeps t) (readBack : List Byte) : s.Keeps (t.endStore readBack) := by
  unfold State.endStore
  dsimp only
  split
  · exact h.other
  · refine .raise ?_ _ _
    exact h.other

/-! ### Resets, START_RUN and STOP_RUN (R138, R139, R160, R172) -/

theorem State.Keeps.startUp (s : State) (pins : PinLevels) (rate : Nat) (kind : ResetKind) (block : List Byte)
    (free : Nat) : s.Keeps (State.startUp pins rate kind block free s.pending) where
  pending := rfl
  table _ := Nat.zero_le 4
  report _ := ⟨Nat.zero_le _, Nat.zero_le _, by simp [State.startUp, Report.initial], rfl, by
    simp [State.startUp, Report.initial, FaultRecord.empty]⟩
  odo _ := by simp [Odo.Bounded, within, State.startUp, Odo.initial]
  heads _ := by simp [headsAgree, State.startUp, HeadLink.initial, HeadLink.consistent]
  skipped _ := Nat.zero_le _
  number _ := Nat.zero_le _
  counters _ := ⟨Nat.zero_le _, Nat.zero_le _, Nat.zero_le _, Nat.zero_le _⟩
  ids _ := by
    refine ⟨by simp [State.startUp, Tracker.initial], fun k => ?_, fun k => ?_, fun j k _ hj => ?_⟩ <;>
      simp [State.startUp, Tracker.initial, Track.empty, TrackState.isWire] at *
  events _ := ⟨rfl, by simp [State.startUp, Report.initial], by simp [State.startUp, Report.initial]⟩
  records _ := ⟨rfl, by simp [State.startUp, Report.initial, SpanQueue.waiting],
    by simp [State.startUp, Report.initial, SpanQueue.waiting]⟩
  exposure _ := by simp [State.startUp, Expo.Safe, Expo.initial, Run.initial]
  spans _ := by simp [State.startUp, SpanBuilder.Follows, SpanBuilder.initial, Run.initial]
  markers _ := by simp [State.startUp, Markers.IdleIn, Markers.initial, Channel.initial, Mast.idle]

theorem State.Keeps.startRun {s t : State} (h : s.Keeps t) {start : Int}
    (hstart : within (-2147483647) 2147483647 start) : s.Keeps (t.startRun start) := by
  have hnumbered : t.KeepsBlocks { t with run := { t.run with number := nextRunNumber t.run.number } } :=
    { number := fun _ => by simp only [nextRunNumber]; split <;> omega }
  have hrun := hnumbered.changeRun .armed .startRun none none none
  refine h.trans { hrun.trans (u := t.startRun start) ?_ with
    exposure := fun he => ⟨he.1, fun hstop => by cases hstop⟩
    spans := fun _ => SpanBuilder.initial_follows (by simp [State.startRun]) _
    markers := fun _ => Markers.idleIn_of_running (by simp [State.startRun]) }
  refine
    { report := fun hf => Report.Fine.map hf fun _ hx => hx
      odo := fun ho => ⟨Nat.zero_le _, ho.2.1, ?_⟩
      skipped := fun _ => Nat.zero_le _
      number := id
      ids := fun _ => ?_
      events := id
      records := id }
  · obtain ⟨hlo, hhi⟩ := hstart
    simp only [within, State.startRun, State.clearMarks, Odo.startRun]
    omega
  · refine ⟨by simp [State.startRun, State.clearMarks, Tracker.initial], fun k => ?_, fun k => ?_, fun j k _ hj => ?_⟩ <;>
      simp [State.startRun, State.clearMarks, Tracker.initial, Track.empty, TrackState.isWire] at *

theorem State.KeepsBlocks.endExposure {s t : State} (h : s.KeepsBlocks t) : s.KeepsBlocks t.endExposure :=
  h.trans { skipped := fun hs => by rwa [State.endExposure_skipped] }

theorem State.KeepsBlocks.table_cleared {s t : State} (h : s.KeepsBlocks t) : s.KeepsBlocks { t with table := [] } :=
  h.trans {}

theorem State.KeepsBlocks.clearMarks {s t : State} (h : s.KeepsBlocks t) : s.KeepsBlocks t.clearMarks :=
  h.trans { report := fun hf => hf.map fun _ hx => hx, events := id, records := id }

theorem State.KeepsBlocks.expo {s t : State} (h : s.KeepsBlocks t) {cfg : Groups} {mark : Markers} {e : Expo}
    (hskip : e.skipped = t.expo.skipped) : s.KeepsBlocks { t with cfg := cfg, mark := mark, expo := e } :=
  h.trans { skipped := fun hs => by rw [hskip]; exact hs }

theorem State.endExposure_finished (s : State) : s.endExposure.expo.state.unfinished = false := by
  unfold State.endExposure
  split
  · rfl
  · next hfinished => exact Bool.eq_false_iff.mpr hfinished

theorem State.Keeps.stopRun {s t : State} (h : s.Keeps t) : s.Keeps t.stopRun := by
  have hcleared := ((State.Keeps.refl t).toKeepsBlocks.tearDownSpans .runEnd t.currentEnd).clearTracks.table_cleared
  have hsame : ((t.tearDownSpans .runEnd t.currentEnd).clearTracks.expo = t.expo
      ∧ (t.tearDownSpans .runEnd t.currentEnd).clearTracks.run = t.run)
      ∧ (t.tearDownSpans .runEnd t.currentEnd).clearTracks.span.Follows .stopped := by
    simpa using SpanBuilder.initial_follows (by decide) _
  unfold State.stopRun
  dsimp only
  generalize (t.tearDownSpans .runEnd t.currentEnd).clearTracks = u at hcleared hsame ⊢
  obtain ⟨⟨hexpo, hrun⟩, hspan⟩ := hsame
  refine h.trans
    { toKeepsBlocks := ?_, exposure := fun he => ?_, spans := fun _ => ?_, markers := fun _ _ => ⟨fun k => ?_, rfl⟩ }
  · refine (KeepsBlocks.changeRun ?_ .stopped .stopRun none t.closingNumber none).clearMarks
    exact hcleared.endExposure.expo rfl
  · rw [← hexpo, ← hrun] at he
    have hsafe : (State.endExposure { u with table := [] }).expo.Safe u.run.state :=
      Expo.Safe.endExposure (s := { u with table := [] }) he
    have hfinished := State.endExposure_finished { u with table := [] }
    generalize (State.endExposure { u with table := [] }).expo = e at hsafe hfinished ⊢
    refine ⟨hsafe.1, fun _ => ⟨?_, ?_, rfl, rfl, rfl⟩⟩ <;>
      · intro hstate
        rw [show e.state = _ from hstate] at hfinished
        cases hfinished
  · simpa using hspan
  · simp [State.clearMarks, Markers.toIdle, Channel.toIdle]

end Sys2Proof.Machine
end

section
/-! What every command keeps: the commands, the step and its invariants (statements O2 to O8). -/

namespace Sys2Proof.Machine

/-! ### Single effects -/

theorem State.Keeps.softReset {s t : State} (h : s.Keeps t) : s.Keeps t.softReset := h.trans (.startUp t _ _ _ _ _)

theorem State.Keeps.armSent {s t : State} (h : s.Keeps t) (hd : Head) : s.Keeps (t.armSent hd) := by
  have hfreed := h.changeHead hd (f := fun l => { l with arm := none }) fun _ hl => hl
  unfold State.armSent
  dsimp only
  split
  · exact hfreed
  · split
    · exact hfreed.softReset
    · split
      · next harming => exact hfreed.openWindow harming
      · exact hfreed

theorem State.Keeps.closeLink {s t : State} (h : s.Keeps t) : s.Keeps t.closeLink := by
  unfold State.closeLink
  repeat' split
  · exact h.link id
  · exact h.softReset
  · exact h

theorem State.Keeps.answerStop {s t : State} (h : s.Keeps t) (closed : Option Word32) : s.Keeps (t.answerStop closed) := by
  unfold State.answerStop
  split
  · exact h.accept _ _
  · exact h.link id

theorem State.Keeps.releaseStop {s t : State} (h : s.Keeps t) : s.Keeps t.releaseStop := by
  unfold State.releaseStop
  split
  · refine .accept ?_ _ _
    exact h.link id
  · exact h

theorem State.Keeps.setReporting {s t : State} (h : s.Keeps t) (set : Checked ReportingSet) :
    s.Keeps (t.setReporting set) := by
  unfold State.setReporting
  split
  · exact h.refuseValue _ _
  · refine .accept ?_ _ _
    exact h.other

/-- R31: a pulse begins or ends while the burst runs, so the window stands. -/
theorem State.Keeps.pulse {s t : State} (h : s.Keeps t) (hburst : t.expo.burst.isSome = true) (las : Bool) (b : Burst) :
    s.Keeps { t with expo := { t.expo with lasDrv := las, burst := some b } } := by
  refine h.expo (fun he => ?_) id
  obtain ⟨⟨hsync, -, hrun, hstuck, hblank⟩, hquiet⟩ := he
  have hwindow := hrun.mp hburst
  exact ⟨⟨hsync, (absurd hwindow ·), ⟨fun _ => hwindow, fun _ => rfl⟩, hstuck, hblank⟩, hquiet⟩

theorem State.Keeps.decideAck {s t : State} (h : s.Keeps t) (a : AckCount) : s.Keeps (t.decideAck a) := by
  have hdecided : s.Keeps { t with expo := { t.expo with ack := none } } := h.expo (fun he => he) id
  unfold State.decideAck State.markShort
  dsimp only
  split
  · exact hdecided
  · refine .raise ?_ _ _
    exact hdecided.table_changed fun hlen => by rwa [changeEntry_length]

theorem State.Keeps.markStuck {s t : State} (h : s.Keeps t) : s.Keeps t.markStuck := by
  unfold State.markStuck
  refine .raise ?_ _ _
  exact h.table_changed fun hlen => by rwa [changeEntry_length]

/-! ### The commands -/

theorem finish_keeps {s u : State} (h : s.Keeps u) : ∃ t, finish u = .next t ∧ s.Keeps t := ⟨_, rfl, h.settle⟩

/-- R137: the position that START_RUN accepts. -/
theorem startRunFields_good {payload : List Byte} {start : Int}
    (h : checkFields 0 startRunFields (fun _ => none) (fun vs => vs.headD 0) payload = .good start) :
    within (-2147483647) 2147483647 start := by
  rcases checkFields_cases 0 startRunFields (fun _ => none) (fun vs => vs.headD 0) payload (fun _ _ hr => by cases hr)
    with ⟨i, -, -, hbad⟩ | ⟨hrange, -, hgood⟩
  · cases hbad.symm.trans h
  · cases hgood.symm.trans h
    simp only [startRunFields, readFields, firstBad_cons_eq_none] at hrange
    simpa [Field.int, Domain.holds, within, startRunFields, readFields] using hrange.1

theorem execStartRun_keeps (payload : List Byte) (s : State) :
    ∃ t, execStartRun payload s = .next t ∧ s.Keeps t := by
  refine finish_keeps (.request _ _ fun t h => ?_)
  dsimp only
  split
  · split
    · exact h.refuseValue _ _
    · next hgood => exact (h.startRun (startRunFields_good hgood)).accept _ _
  · exact h.refuse _ _

theorem execBurstPulseTimer_keeps (s : State) : ∃ t, execBurstPulseTimer s = .next t ∧ s.Keeps t := by
  have h := State.Keeps.refl s
  unfold execBurstPulseTimer
  split
  · exact finish_keeps h
  · next b hburst =>
    have hruns : s.expo.burst.isSome = true := by rw [hburst]; rfl
    refine finish_keeps ?_
    have hadvanced := h.advanceTo b.due
    split
    · exact hadvanced.pulse hruns _ _
    · split
      · exact hadvanced.closeWindow fun he => he.1.2.2.1.mp hruns
      · exact hadvanced.pulse hruns _ _

theorem execStuckTimerExpiry_keeps (s : State) : ∃ t, execStuckTimerExpiry s = .next t ∧ s.Keeps t := by
  have h := State.Keeps.refl s
  unfold execStuckTimerExpiry
  split
  · exact finish_keeps h
  · next due hdue =>
    have hruns : s.expo.stuckDue.isSome = true := by rw [hdue]; rfl
    exact finish_keeps ((h.advanceTo due).closeWindow fun he => he.1.2.2.2.1.mp hruns).markStuck

theorem execBlankOutEnd_keeps (s : State) : ∃ t, execBlankOutEnd s = .next t ∧ s.Keeps t := by
  have h := State.Keeps.refl s
  unfold execBlankOutEnd
  split
  · exact finish_keeps h
  · next due hdue =>
    refine finish_keeps (.releaseStop ?_)
    refine (h.advanceTo due).expo (fun he => ?_) id
    obtain ⟨⟨hsync, hlas, hburst, hstuck, hblank⟩, hquiet⟩ := he
    have hstate : s.expo.state = .blank := hblank.mp (by simp [hdue])
    simp_all [Expo.Safe]

theorem execChargeGuardExpiry_keeps (s : State) : ∃ t, execChargeGuardExpiry s = .next t ∧ s.Keeps t := by
  have h := State.Keeps.refl s
  unfold execChargeGuardExpiry
  split
  · exact finish_keeps h
  · next due hdue =>
    refine finish_keeps ((h.advanceTo due).expo (fun he => ⟨he.1, fun hstop => ?_⟩) id)
    obtain ⟨-, -, -, hguard, -⟩ := he.2 hstop
    cases hdue.symm.trans hguard

theorem execPeriodTimerExpiry_keeps (rsvRdy : Bool) (s : State) :
    ∃ t, execPeriodTimerExpiry rsvRdy s = .next t ∧ s.Keeps t := by
  have h := (State.Keeps.refl s).seeRsv rsvRdy
  unfold execPeriodTimerExpiry
  dsimp only
  split
  · exact finish_keeps h
  · next due hdue =>
    refine finish_keeps ?_
    have hrestarted : s.Keeps
        { (s.seeRsv rsvRdy).advanceTo due with
          expo := { ((s.seeRsv rsvRdy).advanceTo due).expo with
            periodDue := some (((s.seeRsv rsvRdy).advanceTo due).clock
              + ms ((s.seeRsv rsvRdy).advanceTo due).cfg.exposure.period) } } := by
      refine (h.advanceTo due).expo (fun he => ⟨he.1, fun hstop => ?_⟩) id
      obtain ⟨-, -, -, -, hperiod⟩ := he.2 hstop
      cases hdue.symm.trans hperiod
    split
    · next hproduces => exact hrestarted.trigger (State.acting_of_produces hproduces)
    · exact hrestarted

theorem execTrigInFilterExpiry_keeps (rsvRdy : Bool) (s : State) :
    ∃ t, execTrigInFilterExpiry rsvRdy s = .next t ∧ s.Keeps t := by
  have h := (State.Keeps.refl s).seeRsv rsvRdy
  unfold execTrigInFilterExpiry
  dsimp only
  split
  · exact finish_keeps h
  · next due _ =>
    refine finish_keeps ?_
    have haccepted : ∀ f, s.Keeps
        { (s.seeRsv rsvRdy).advanceTo due with expo := { (s.seeRsv rsvRdy).expo with trigFilter := f } } := fun f =>
      (h.advanceTo due).expo (fun he => he) id
    split
    · next hproduces => exact (haccepted _).trigger (State.acting_of_produces (Bool.and_eq_true_iff.mp hproduces).2)
    · exact haccepted _

/-- Every command answers a next state, which keeps what the invariants speak of. -/
theorem exec_keeps (c : Instr) (s : State) : ∃ t, exec c s = .next t ∧ s.Keeps t := by
  have h := State.Keeps.refl s
  cases c with
  | startRun payload => exact execStartRun_keeps payload s
  | burstPulseTimer => exact execBurstPulseTimer_keeps s
  | stuckTimerExpiry => exact execStuckTimerExpiry_keeps s
  | blankOutEnd => exact execBlankOutEnd_keeps s
  | chargeGuardExpiry => exact execChargeGuardExpiry_keeps s
  | periodTimerExpiry rsvRdy => exact execPeriodTimerExpiry_keeps rsvRdy s
  | trigInFilterExpiry rsvRdy => exact execTrigInFilterExpiry_keeps rsvRdy s
  | powerOnReset => exact finish_keeps (.startUp s _ _ _ _ _)
  | calLoadDone =>
    simp only [exec, execCalLoadDone]
    split
    · exact finish_keeps h.loadCalibration
    · exact finish_keeps h
  | identify => exact finish_keeps (.request _ _ fun t h => h.accept _ _)
  | status =>
    refine finish_keeps (.wholeFrame _ fun t h => ?_)
    split
    · exact h.accept _ _
    · exact h.refuse _ _
  | setGroupExposure => exact finish_keeps (.request _ _ fun t h => h.setOrStage _ _ _)
  | setGroupOdometry => exact finish_keeps (.request _ _ fun t h => h.setInStopped _ _)
  | setGroupAttitude => exact finish_keeps (.request _ _ fun t h => h.setInStopped _ _)
  | setGroupMarkers => exact finish_keeps (.request _ _ fun t h => h.setInStopped _ _)
  | setGroupTracking => exact finish_keeps (.request _ _ fun t h => h.setInStopped _ _)
  | setGroupLine => exact finish_keeps (.request _ _ fun t h => h.setOrStage _ _ _)
  | setGroupWireTypes => exact finish_keeps (.request _ _ fun t h => h.setInStopped _ _)
  | setGroupReporting => exact finish_keeps (.request _ _ fun t h => h.setReporting _)
  | getGroup =>
    refine finish_keeps (.request _ _ fun t h => ?_)
    split
    · exact h.refuseValue _ _
    · exact h.accept _ _
  | stopRun =>
    refine finish_keeps (.request _ _ fun t h => ?_)
    split
    · exact h.refuse _ _
    · exact h.stopRun.answerStop _
  | exposeOnce payload rsvRdy =>
    refine finish_keeps (((State.Keeps.refl s).seeRsv rsvRdy).trans (.request _ _ fun t h => ?_))
    split
    · next hproduces => exact (h.trigger (State.acting_of_produces hproduces)).accept _ _
    · exact h.refuse _ _
  | operatorMark =>
    refine finish_keeps (.request _ _ fun t h => ?_)
    split
    · exact h.refuse _ _
    · exact (h.emit _).accept _ _
  | readLive =>
    refine finish_keeps (.request _ _ fun t h => ?_)
    split
    · exact h.refuseValue _ _
    · refine .accept ?_ _ _
      exact h.other
  | fetchSpans =>
    refine finish_keeps (.request _ _ fun t h => ?_)
    split
    · exact h.refuseValue _ _
    · exact h.fetchSpans _
  | fetchEvents =>
    refine finish_keeps (.request _ _ fun t h => ?_)
    split
    · exact h.refuseValue _ _
    · exact h.fetchEvents _
  | ackAttention =>
    refine finish_keeps (.request _ _ fun t h => ?_)
    split
    · exact h.refuseValue _ _
    · exact h.acknowledge _
  | readFaults => exact finish_keeps (.request _ _ fun t h => h.accept _ _)
  | clearFaults =>
    refine finish_keeps (.request _ _ fun t h => .accept ?_ _ _)
    exact h.faults_mapped fun _ _ => Nat.zero_le _
  | writeCal =>
    refine finish_keeps (.request _ _ fun t h => ?_)
    repeat' split
    · exact h.refuseValue _ _
    · refine .accept ?_ _ _
      exact h.other
    · exact h.refuse _ _
  | readCal => exact finish_keeps (.request _ _ fun t h => h.accept _ _)
  | storeCal =>
    refine finish_keeps (.request _ _ fun t h => ?_)
    split
    · refine .accept ?_ _ _
      exact h.other
    · exact h.refuse _ _
  | calStoreDone readBack =>
    simp only [exec, execCalStoreDone]
    split
    · exact finish_keeps (h.endStore readBack)
    · exact finish_keeps h
  | calTemperature =>
    refine finish_keeps (.request _ _ fun t h => ?_)
    repeat' split
    · exact h.refuseValue _ _
    · exact h.trans { counters := id }
    · exact h.refuse _ _
  | resetPart =>
    refine finish_keeps (.request _ _ fun t h => .accept ?_ _ _)
    exact h.link id
  | unknownRequest kind payload =>
    refine finish_keeps (.wholeFrame _ fun t h => ?_)
    dsimp only [State.unknownGroup]
    repeat' split
    · exact h.refuse _ _
    · exact h.refuse _ _
    · exact h.refuseValue _ _
    · exact h.refuse _ _
  | hostFrameError reason => cases reason <;> exact finish_keeps (h.abandonHostFrame _)
  | hostByteGapTimeout => exact finish_keeps (h.abandonHostFrame _)
  | hostTxFrameDone =>
    simp only [exec, execHostTxFrameDone]
    split
    · exact finish_keeps h
    · exact finish_keeps (h.endFrame _).closeLink
  | armFrameSent head =>
    simp only [exec, execArmFrameSent]
    split
    · exact finish_keeps h
    · exact finish_keeps ((h.advanceTo _).armSent head)
  | returnsFrameReceived head payload rsvRdy =>
    simp only [exec, execReturnsFrameReceived]
    split
    · exact finish_keeps ((h.seeRsv rsvRdy).takeReturns head _)
    · exact finish_keeps ((h.seeRsv rsvRdy).badHeadFrame head _)
  | headFrameError head what =>
    cases what with
    | length => exact finish_keeps (h.abandonHeadFrame head _)
    | byteError => exact finish_keeps (h.abandonHeadFrame head _)
    | whole kind payload crc =>
      simp only [exec, execHeadFrameError]
      split
      · exact finish_keeps (h.badHeadFrame head _)
      · exact finish_keeps (h.changeHead head (f := HeadLink.hunt) fun _ hl => hl)
  | headByteGapTimeout head => exact finish_keeps (h.abandonHeadFrame head _)
  | headTimeout tag rsvRdy =>
    simp only [exec, execHeadTimeout]
    repeat' split
    · exact finish_keeps (h.seeRsv rsvRdy)
    · exact finish_keeps (((h.seeRsv rsvRdy).advanceTo _).expireEntry _)
    · exact finish_keeps (h.seeRsv rsvRdy)
  | trigInChange => exact finish_keeps (h.trans { exposure := fun he => he, skipped := id })
  | lasAckChange =>
    refine finish_keeps (h.trans { skipped := id, exposure := fun he => ?_ })
    obtain ⟨⟨hsync, hlas, hburst, hstuck, hblank⟩, hquiet⟩ := he
    exact ⟨⟨hsync, hlas, hburst, by simpa using hstuck, hblank⟩, hquiet⟩
  | ackCountDecision =>
    simp only [exec, execAckCountDecision]
    repeat' split
    · exact finish_keeps h
    · exact finish_keeps h
    · exact finish_keeps ((h.advanceTo _).decideAck _)
  | encoderValidEdge line rsvRdy => exact finish_keeps ((h.seeRsv rsvRdy).encoderEdge line)
  | encoderPhaseError => exact finish_keeps h.phaseError
  | phaseDecayTimer =>
    refine finish_keeps ((h.advanceTo _).odo_changed fun ho => ⟨?_, ho.2⟩)
    exact Nat.le_trans (Nat.sub_le _ _) ho.1
  | speedGate =>
    refine finish_keeps (State.Keeps.other ?_)
    exact (h.advanceTo _).odo_changed fun ho => ⟨ho.1, clamp_within (by decide) _, ho.2.2⟩
  | markerInputChange marker =>
    refine finish_keeps (State.Keeps.markerChanged ?_ _ _)
    exact h.other
  | markerDebounceExpiry marker =>
    simp only [exec, execMarkerDebounceExpiry]
    split
    · exact finish_keeps h
    · exact finish_keeps ((h.advanceTo _).acceptMarker marker _)
  | adcConversionDone code =>
    have hadvanced := h.advanceTo s.att.due
    simp only [exec, execAdcConversionDone]
    split
    · exact finish_keeps (State.Keeps.other hadvanced)
    · exact finish_keeps (State.Keeps.other (hadvanced.completeReading _ _))
  | attnPulseEnd =>
    simp only [exec, execAttnPulseEnd]
    split
    · exact finish_keeps h
    · exact finish_keeps ((h.advanceTo _).rep (·.causes _ _ _ _ _) id id)
  | hostRxPreamble =>
    simp only [exec, execHostRxPreamble]
    split
    · exact finish_keeps h
    · exact finish_keeps (h.link id)
  | headRxPreamble head => exact finish_keeps (h.changeHead head fun _ hl => hl)

/-- What a step keeps besides the waiting commands: every invariant. -/
theorem step_keeps {s t : State} (h : step s = .next t) : ∃ rest, ({ s with pending := rest } : State).Keeps t := by
  unfold step at h
  split at h
  · next hempty =>
    cases h
    exact ⟨s.pending, State.Keeps.other (.refl s)⟩
  · next c rest hpending =>
    obtain ⟨u, hexec, hkeeps⟩ := exec_keeps c { s with pending := rest }
    cases hexec.symm.trans h
    exact ⟨rest, hkeeps⟩

/-! ### The invariants of a step -/

/-- Settles O2, by cases on the command. -/
theorem everyCommandAnswersAndKeepsTheQueue : Obligations.EveryCommandAnswersAndKeepsTheQueue := by
  intro c s
  obtain ⟨t, hexec, hkeeps⟩ := exec_keeps c s
  exact ⟨t, hexec, hkeeps.pending⟩

/-- Settles O3: a step keeps each bound. -/
theorem stepKeepsTheBounds : Obligations.StepKeepsTheBounds := by
  intro s t hb hstep
  obtain ⟨rest, hkeeps⟩ := step_keeps hstep
  obtain ⟨hskipped, hnumber, hcounters⟩ := hb.counts
  have hfine := hkeeps.report ⟨hb.queues.1, hb.queues.2, hb.flight, hb.faults.1, hb.faults.2⟩
  obtain ⟨hphase, hspeed, hacc⟩ := hkeeps.odo ⟨hb.phase, hb.speed, hb.accumulator⟩
  exact
    { table := hkeeps.table hb.table
      queues := ⟨hfine.spans, hfine.events⟩
      flight := hfine.flight
      phase := hphase
      heads := hkeeps.heads hb.heads
      speed := hspeed
      accumulator := hacc
      faults := ⟨hfine.records, hfine.counts⟩
      counts := ⟨hkeeps.skipped hskipped, hkeeps.number hnumber, hkeeps.counters hcounters⟩ }

/-- Settles O4: a step keeps the outputs to the exposure state. -/
theorem stepKeepsTheExposureOutputs : Obligations.StepKeepsTheExposureOutputs := by
  intro s t hsafe hstep
  obtain ⟨rest, hkeeps⟩ := step_keeps hstep
  exact hkeeps.exposure hsafe

/-- Settles O5: a step keeps span, candidate and monitors to the run state. -/
theorem stepKeepsSpansToTheRun : Obligations.StepKeepsSpansToTheRun := by
  intro s t hfollow hstep
  obtain ⟨rest, hkeeps⟩ := step_keeps hstep
  exact hkeeps.spans hfollow

/-- Settles O6: a confirmed track takes an id that no track holds, and no other step gives one. -/
theorem stepKeepsWireIdsDistinct : Obligations.StepKeepsWireIdsDistinct := by
  intro s t hids hstep
  obtain ⟨rest, hkeeps⟩ := step_keeps hstep
  exact hkeeps.ids hids

/-- Settles O7: a loss is counted by the gap of the next record stored. -/
theorem stepKeepsTheGapsAccounting : Obligations.StepKeepsTheGapsAccounting := by
  intro s t haccounts hstep
  obtain ⟨rest, hkeeps⟩ := step_keeps hstep
  exact ⟨hkeeps.events haccounts.1, hkeeps.records haccounts.2⟩

/-- Settles O8: STOP_RUN and the resets make them IDLE, and nothing moves them in STOPPED. -/
theorem stepKeepsMarkersIdleInStopped : Obligations.StepKeepsMarkersIdleInStopped := by
  intro s t hidle hstep
  obtain ⟨rest, hkeeps⟩ := step_keeps hstep
  exact hkeeps.markers hidle

end Sys2Proof.Machine
end

section
/-! Payload layouts and host requests (R161 to R165, R170, R173, R175, R197 to R204; statements O1, O9, O11 to O13, O25 to
O28, O60). -/

namespace Sys2Proof.Machine

/-! ### The ranges of a payload's fields as conditions (R165) -/

/-- The range condition of each field on its value. -/
def rangeProps : List Field → List Int → List Prop
  | f :: fs, v :: vs => (f.domain.holds v = true) :: rangeProps fs vs
  | _, _ => []

theorem firstFails_rangeProps (n : Nat) (fs : List Field) (vs : List Int) (i : Nat) :
    firstFails n (rangeProps fs vs) i ↔ firstBad n fs vs = some i := by
  induction fs generalizing n vs with
  | nil => simp [rangeProps, firstFails, firstBad]
  | cons f fs ih =>
    cases vs with
    | nil => simp [rangeProps, firstFails, firstBad]
    | cons v vs =>
      by_cases hv : f.domain.holds v = true
      · simp [rangeProps, firstFails, firstBad, ih, hv]
      · simp [rangeProps, firstFails, firstBad, hv, eq_comm]

theorem rangeProps_all (n : Nat) (fs : List Field) (vs : List Int) (h : firstBad n fs vs = none) :
    ∀ p ∈ rangeProps fs vs, p := by
  induction fs generalizing n vs with
  | nil => simp [rangeProps]
  | cons f fs ih =>
    cases vs with
    | nil => simp [rangeProps]
    | cons v vs =>
      rw [firstBad_cons_eq_none] at h
      intro p hp
      rcases List.mem_cons.mp hp with rfl | hp
      · exact h.1
      · exact ih _ _ h.2 p hp

/-- Checking fields fails at the first field out of range, or else at the relation's field. -/
theorem checkFields_eq_bad_iff {α : Type} (n : Nat) (fs : List Field) (relation : List Int → Option Nat)
    (make : List Int → α) (bs : List Byte) (i : Nat) :
    checkFields n fs relation make bs = .bad i ↔
      firstBad n fs (readFields fs bs) = some i
        ∨ (firstBad n fs (readFields fs bs) = none ∧ relation (readFields fs bs) = some i) := by
  unfold checkFields
  dsimp only
  cases hbad : firstBad n fs (readFields fs bs) with
  | some j => simp
  | none => cases hrel : relation (readFields fs bs) <;> simp

/-- A field whose bytes can carry every value in its range. -/
def Field.carriesRange (f : Field) : Prop := ∀ v, f.domain.holds v = true → f.carries v

theorem Field.carriesRange_nat {w : Nat} {lo hi : Int} (hlo : 0 ≤ lo) (hhi : hi < ((256 ^ w : Nat) : Int)) :
    (Field.nat w lo hi).carriesRange := by
  intro v hv
  simp only [Field.nat, Domain.holds_range] at hv
  simp only [Field.carries, Field.nat, Bool.false_eq_true, if_false]
  omega

theorem Field.carriesRange_int {w : Nat} {lo hi : Int} (hlo : -((256 ^ w : Nat) : Int) ≤ 2 * lo)
    (hhi : 2 * hi < ((256 ^ w : Nat) : Int)) : (Field.int w lo hi).carriesRange := by
  intro v hv
  simp only [Field.int, Domain.holds_range] at hv
  simp only [Field.carries, Field.int, if_true]
  omega

/-- Values in range are carried by fields that can carry their ranges. -/
theorem fieldsCarry_of_inRange {n : Nat} {fs : List Field} {vs : List Int} (hfs : ∀ f ∈ fs, f.carriesRange)
    (hlen : vs.length = fs.length) (h : firstBad n fs vs = none) : fieldsCarry fs vs := by
  induction fs generalizing n vs with
  | nil => rw [List.eq_nil_of_length_eq_zero hlen]; trivial
  | cons f fs ih =>
    match vs, hlen with
    | v :: vs, hlen =>
      rw [firstBad_cons_eq_none] at h
      exact ⟨hfs f (List.mem_cons_self ..) v h.1,
        ih (fun g hg => hfs g (List.mem_cons_of_mem f hg)) (by simpa using hlen) h.2⟩

/-- What ties a set to its payload: its bytes are its values in layout order, a set in range has values that pass, and
values that pass are those of a set in range. -/
structure SetLayout {α : Type} (n : Nat) (fs : List Field) (relation : List Int → Option Nat) (make : List Int → α)
    (values : α → List Int) (inRange : α → Prop) (payload : α → List Byte) : Prop where
  bytes : ∀ x, payload x = writeFields fs (values x)
  passes : ∀ x, inRange x → firstBad n fs (values x) = none ∧ relation (values x) = none
  count : ∀ x, (values x).length = fs.length
  made : ∀ x, make (values x) = x
  covers : ∀ vs, vs.length = fs.length → firstBad n fs vs = none → relation vs = none →
    inRange (make vs) ∧ values (make vs) = vs

section
variable {α : Type} {n : Nat} {fs : List Field} {relation : List Int → Option Nat} {make : List Int → α}
  {values : α → List Int} {inRange : α → Prop} {payload : α → List Byte}

theorem SetLayout.check_payload (L : SetLayout n fs relation make values inRange payload)
    (hfs : ∀ f ∈ fs, f.carriesRange) {x : α} (h : inRange x) :
    checkFields n fs relation make (payload x) = .good x := by
  have hread : readFields fs (payload x) = values x := by
    rw [L.bytes, readFields_writeFields fs _ (fieldsCarry_of_inRange hfs (L.count x) (L.passes x h).1)]
  obtain ⟨hfirst, hrel⟩ := L.passes x h
  simp only [checkFields, hread, hfirst, hrel, L.made]

/-- Another payload of the set's length fails at a field. -/
theorem SetLayout.check_bad (L : SetLayout n fs relation make values inRange payload) {b : List Byte}
    (hlen : b.length = fieldsLength fs) (hno : ∀ x, inRange x → b ≠ payload x) :
    ∃ i, checkFields n fs relation make b = .bad i := by
  cases hfirst : firstBad n fs (readFields fs b) with
  | some i => exact ⟨i, (checkFields_eq_bad_iff ..).mpr (.inl hfirst)⟩
  | none =>
    cases hrel : relation (readFields fs b) with
    | some i => exact ⟨i, (checkFields_eq_bad_iff ..).mpr (.inr ⟨hfirst, hrel⟩)⟩
    | none =>
      obtain ⟨hrange, hvalues⟩ := L.covers _ (readFields_length fs b) hfirst hrel
      refine absurd ?_ (hno _ hrange)
      rw [L.bytes, hvalues, writeFields_readFields fs b hlen]

end

/-- The index that a check without relations gives is that of the first range that fails. -/
theorem firstFails_of_check {α : Type} {n : Nat} {fs : List Field} {make : List Int → α} {b : List Byte} {i : Nat}
    (h : checkFields n fs (fun _ => none) make b = .bad i) :
    (n ≤ i ∧ i < n + fs.length) ∧ firstFails n (rangeProps fs (readFields fs b)) i := by
  rw [firstFails_rangeProps]
  rcases (checkFields_eq_bad_iff n fs _ make b i).mp h with hfirst | ⟨-, hrel⟩
  · exact ⟨firstBad_bounds _ _ _ _ hfirst, hfirst⟩
  · cases hrel

/-- The index that a check with a relation gives. -/
theorem failsAt_of_check {α : Type} {n : Nat} {fs : List Field} {relation : List Int → Option Nat} {make : List Int → α}
    {b : List Byte} {i later : Nat} {holds : Prop} (h : checkFields n fs relation make b = .bad i)
    (hr : ∀ j, relation (readFields fs b) = some j → ¬ holds ∧ j = later) (hlow : n ≤ later)
    (hhigh : later < n + fs.length) :
    (n ≤ i ∧ i < n + fs.length) ∧ failsAt n (rangeProps fs (readFields fs b)) holds later i := by
  rcases (checkFields_eq_bad_iff n fs relation make b i).mp h with hfirst | ⟨hnone, hrel⟩
  · exact ⟨firstBad_bounds _ _ _ _ hfirst, .inl ((firstFails_rangeProps _ _ _ _).mpr hfirst)⟩
  · obtain ⟨hfails, rfl⟩ := hr i hrel
    exact ⟨⟨hlow, hhigh⟩, .inr ⟨rangeProps_all _ _ _ hnone, hfails, rfl⟩⟩

/-! ### Codes -/

theorem toBytes_flagInt (b : Bool) : toBytes 1 (flagInt b) = [flagByte b] := by cases b <;> rfl

@[simp] theorem flagInt_range (b : Bool) : 0 ≤ flagInt b ∧ flagInt b ≤ 1 := by cases b <;> decide

@[simp] theorem decide_flagInt (b : Bool) : decide (flagInt b = 1) = b := by cases b <;> rfl

theorem flagInt_decide {v : Int} (h : 0 ≤ v ∧ v ≤ 1) : flagInt (decide (v = 1)) = v := by
  have : v = 0 ∨ v = 1 := by omega
  rcases this with rfl | rfl <;> rfl

theorem TrigMode.code_range (m : TrigMode) : 0 ≤ m.code ∧ m.code ≤ 3 := by cases m <;> decide

theorem TrigMode.ofCode_code (m : TrigMode) : TrigMode.ofCode m.code = m := by cases m <;> rfl

theorem TrigMode.code_ofCode {v : Int} (h : 0 ≤ v ∧ v ≤ 3) : (TrigMode.ofCode v).code = v := by
  have : v = 0 ∨ v = 1 ∨ v = 2 ∨ v = 3 := by omega
  rcases this with rfl | rfl | rfl | rfl <;> rfl

theorem MastSetting.code_range (m : MastSetting) : 0 ≤ m.code ∧ m.code ≤ 3 := by cases m <;> decide

theorem MastSetting.ofCode_code (m : MastSetting) : MastSetting.ofCode m.code = m := by cases m <;> rfl

theorem MastSetting.code_ofCode {v : Int} (h : 0 ≤ v ∧ v ≤ 3) : (MastSetting.ofCode v).code = v := by
  have : v = 0 ∨ v = 1 ∨ v = 2 ∨ v = 3 := by omega
  rcases this with rfl | rfl | rfl | rfl <;> rfl

theorem OverlapMode.code_range (m : OverlapMode) : 0 ≤ m.code ∧ m.code ≤ 2 := by cases m <;> decide

theorem OverlapMode.ofCode_code (m : OverlapMode) : OverlapMode.ofCode m.code = m := by cases m <;> rfl

theorem OverlapMode.code_ofCode {v : Int} (h : 0 ≤ v ∧ v ≤ 2) : (OverlapMode.ofCode v).code = v := by
  have : v = 0 ∨ v = 1 ∨ v = 2 := by omega
  rcases this with rfl | rfl | rfl <;> rfl

/-! ### The layouts of the sets -/

theorem exposureFields_carry : ∀ f ∈ exposureFields, f.carriesRange := by simp [exposureFields, Field.enumOf, Field.flag, Field.carriesRange_nat]

theorem exposureLayout :
    SetLayout 1 exposureFields exposureRelation ExposureSet.ofValues ExposureSet.values ExposureSet.inRange
      ExposureSet.payload where
  bytes e := by simp [ExposureSet.payload, exposureFields, ExposureSet.values, writeFields, Field.enumOf, Field.nat, Field.flag,
    toBytes_flagInt]
  passes e h := by
    have hmode := e.mode.code_range
    have hquiet := flagInt_range e.quiet
    simp only [ExposureSet.inRange] at h
    constructor
    · simp only [exposureFields, ExposureSet.values, firstBad_cons_eq_none, firstBad_nil, Field.enumOf, Field.nat,
        Field.flag, Domain.holds_range, and_true]
      omega
    · simp only [exposureRelation, ExposureSet.values]
      rw [if_pos (by omega)]
  count e := rfl
  made e := by simp [ExposureSet.values, ExposureSet.ofValues, TrigMode.ofCode_code]
  covers vs hlen hfirst hrel := by
    match vs, hlen with
    | [mode, pitch, period, pulses, onT, offT, blank, stuck, guard, quiet, timeout, dx, dz], _ =>
      simp only [exposureFields, firstBad_cons_eq_none, Field.enumOf, Field.nat, Field.flag, Domain.holds_range] at hfirst
      simp only [exposureRelation, ite_eq_left_iff, reduceCtorEq, imp_false, not_not] at hrel
      constructor
      · simp only [ExposureSet.inRange, ExposureSet.ofValues]; omega
      · simp only [ExposureSet.values, ExposureSet.ofValues]
        rw [TrigMode.code_ofCode (by omega), flagInt_decide (by omega)]
        simp; omega

theorem odometryFields_carry : ∀ f ∈ odometryFields, f.carriesRange := by simp [odometryFields, Field.enumOf, Field.carriesRange_nat]

theorem odometryLayout :
    SetLayout 1 odometryFields (fun _ => none) OdometrySet.ofValues OdometrySet.values OdometrySet.inRange
      OdometrySet.payload where
  bytes o := by simp [OdometrySet.payload, odometryFields, OdometrySet.values, writeFields, Field.enumOf, Field.nat, toBytes_flagInt]
  passes o h := by
    have hsense := flagInt_range o.inverted
    have horient := flagInt_range o.reversed
    simp only [OdometrySet.inRange] at h
    refine ⟨?_, rfl⟩
    simp only [odometryFields, OdometrySet.values, firstBad_cons_eq_none, firstBad_nil, Field.enumOf, Field.nat,
      Domain.holds_range, and_true]
    omega
  count o := rfl
  made o := by simp [OdometrySet.values, OdometrySet.ofValues]
  covers vs hlen hfirst _ := by
    match vs, hlen with
    | [nm, sense, rev, orient], _ =>
      simp only [odometryFields, firstBad_cons_eq_none, Field.enumOf, Field.nat, Domain.holds_range] at hfirst
      constructor
      · simp only [OdometrySet.inRange, OdometrySet.ofValues]; omega
      · simp only [OdometrySet.values, OdometrySet.ofValues]
        rw [flagInt_decide (by omega), flagInt_decide (by omega)]
        simp; omega

theorem attitudeFields_carry : ∀ f ∈ attitudeFields, f.carriesRange := by
  intro f hf
  simp only [attitudeFields, List.mem_cons, List.not_mem_nil, or_false] at hf
  rcases hf with rfl | rfl
  · intro v hv
    simp only [Domain.holds_oneOf, List.mem_cons, List.not_mem_nil, or_false] at hv
    simp only [Field.carries, Bool.false_eq_true, if_false]
    omega
  · exact Field.carriesRange_nat (by decide) (by decide)

theorem attitudeLayout :
    SetLayout 1 attitudeFields attitudeRelation AttitudeSet.ofValues AttitudeSet.values AttitudeSet.inRange
      AttitudeSet.payload where
  bytes a := by simp [AttitudeSet.payload, attitudeFields, AttitudeSet.values, writeFields, Field.nat]
  passes a h := by
    simp only [AttitudeSet.inRange] at h
    constructor
    · simp only [attitudeFields, AttitudeSet.values, firstBad_cons_eq_none, firstBad_nil, Field.nat, Domain.holds_range,
        Domain.holds_oneOf, List.mem_cons, List.not_mem_nil, or_false, and_true]
      omega
    · simp only [attitudeRelation, AttitudeSet.values]
      rw [if_neg (by omega)]
  count a := rfl
  made a := by simp [AttitudeSet.values, AttitudeSet.ofValues]
  covers vs hlen hfirst hrel := by
    match vs, hlen with
    | [osr, age], _ =>
      simp only [attitudeFields, firstBad_cons_eq_none, Field.nat, Domain.holds_range, Domain.holds_oneOf, List.mem_cons,
        List.not_mem_nil, or_false] at hfirst
      simp only [attitudeRelation, ite_eq_right_iff, reduceCtorEq, imp_false] at hrel
      constructor
      · simp only [AttitudeSet.inRange, AttitudeSet.ofValues]; omega
      · simp only [AttitudeSet.values, AttitudeSet.ofValues]
        simp; omega

theorem markerFields_carry : ∀ f ∈ markerFields, f.carriesRange := by simp [markerFields, Field.enumOf, Field.flag, Field.carriesRange_nat]

theorem markerLayout :
    SetLayout 1 markerFields (fun _ => none) MarkerSet.ofValues MarkerSet.values MarkerSet.inRange
      MarkerSet.payload where
  bytes m := by simp [MarkerSet.payload, markerFields, MarkerSet.values, writeFields, Field.enumOf, Field.flag, Field.nat,
    toBytes_flagInt]
  passes m h := by
    have hfirst := flagInt_range m.debounce.e0
    have hsecond := flagInt_range m.debounce.e1
    have hthird := flagInt_range m.debounce.e2
    have hfourth := flagInt_range m.debounce.e3
    have hsite := flagInt_range m.siteMarks
    have hmast := m.mast.code_range
    have hzone := m.overlap.code_range
    simp only [MarkerSet.inRange] at h
    refine ⟨?_, rfl⟩
    simp only [markerFields, MarkerSet.values, firstBad_cons_eq_none, firstBad_nil, Field.enumOf, Field.flag, Field.nat,
      Domain.holds_range, and_true]
    omega
  count m := rfl
  made m := by simp [MarkerSet.values, MarkerSet.ofValues, MastSetting.ofCode_code, OverlapMode.ofCode_code]
  covers vs hlen hfirst _ := by
    match vs, hlen with
    | [d1, d2, d3, d4, q1, q2, q3, q4, mast, zone, site], _ =>
      simp only [markerFields, firstBad_cons_eq_none, Field.enumOf, Field.flag, Field.nat, Domain.holds_range] at hfirst
      constructor
      · simp only [MarkerSet.inRange, MarkerSet.ofValues]; omega
      · simp only [MarkerSet.values, MarkerSet.ofValues]
        rw [flagInt_decide (by omega), flagInt_decide (by omega), flagInt_decide (by omega), flagInt_decide (by omega),
          flagInt_decide (by omega), MastSetting.code_ofCode (by omega), OverlapMode.code_ofCode (by omega)]
        simp; omega

theorem trackingFields_carry : ∀ f ∈ trackingFields, f.carriesRange := by simp [trackingFields, Field.carriesRange_nat]

theorem trackingLayout :
    SetLayout 1 trackingFields trackingRelation TrackingSet.ofValues TrackingSet.values TrackingSet.inRange
      TrackingSet.payload where
  bytes t := by simp [TrackingSet.payload, trackingFields, TrackingSet.values, writeFields, Field.nat]
  passes t h := by
    simp only [TrackingSet.inRange] at h
    constructor
    · simp only [trackingFields, TrackingSet.values, firstBad_cons_eq_none, firstBad_nil, Field.nat, Domain.holds_range,
        and_true]
      omega
    · simp only [trackingRelation, TrackingSet.values]
      rw [if_pos (by omega)]
  count t := rfl
  made t := by simp [TrackingSet.values, TrackingSet.ofValues]
  covers vs hlen hfirst hrel := by
    match vs, hlen with
    | [acc, hyst, sg, hg, ms, mh, ch, cd, dl, wl, wh, lift, wr], _ =>
      simp only [trackingFields, firstBad_cons_eq_none, Field.nat, Domain.holds_range] at hfirst
      simp only [trackingRelation, ite_eq_left_iff, reduceCtorEq, imp_false, not_not] at hrel
      constructor
      · simp only [TrackingSet.inRange, TrackingSet.ofValues]; omega
      · simp only [TrackingSet.values, TrackingSet.ofValues]
        simp; omega

theorem lineFields_carry : ∀ f ∈ lineFields, f.carriesRange := by simp [lineFields, Field.carriesRange_nat]

theorem lineLayout :
    SetLayout 1 lineFields lineRelation LineSet.ofValues LineSet.values LineSet.inRange LineSet.payload where
  bytes l := by simp [LineSet.payload, lineFields, LineSet.values, writeFields, Field.nat]
  passes l h := by
    simp only [LineSet.inRange] at h
    constructor
    · simp only [lineFields, LineSet.values, firstBad_cons_eq_none, firstBad_nil, Field.nat, Domain.holds_range, and_true]
      omega
    · simp only [lineRelation, LineSet.values]
      rw [if_pos (by omega)]
  count l := rfl
  made l := by simp [LineSet.values, LineSet.ofValues]
  covers vs hlen hfirst hrel := by
    match vs, hlen with
    | [wt, sl, sh, hl, hh, wh, mn, mx, wl, wpl], _ =>
      simp only [lineFields, firstBad_cons_eq_none, Field.nat, Domain.holds_range] at hfirst
      simp only [lineRelation, ite_eq_left_iff, reduceCtorEq, imp_false, not_not] at hrel
      constructor
      · simp only [LineSet.inRange, LineSet.ofValues]; omega
      · simp only [LineSet.values, LineSet.ofValues]
        simp; omega

/-- R114 for an entry whose diameter's upper end is given, as `wireTypeFields` has it. -/
def WireType.inRangeFor (d : Int) (w : WireType) : Prop :=
  (4000 ≤ w.radius ∧ w.radius ≤ 8000) ∧ (1 ≤ w.minRemaining ∧ (w.minRemaining : Int) ≤ 2 * d - 1) ∧ w.code ≤ 65535

theorem WireType.inRange_iff (w : WireType) : w.inRange ↔ w.inRangeFor w.radius := by
  simp only [WireType.inRange, WireType.inRangeFor]; omega

theorem wireTypeFields_carry {ds : List Int} (hds : ∀ d ∈ ds, d ≤ 8000) : ∀ f ∈ wireTypeFields ds, f.carriesRange := by
  induction ds with
  | nil => simp [wireTypeFields]
  | cons d ds ih =>
    have hd := hds d (List.mem_cons_self ..)
    have hrest := ih fun e he => hds e (List.mem_cons_of_mem d he)
    intro f hf
    simp only [wireTypeFields, List.mem_cons] at hf
    rcases hf with rfl | rfl | rfl | hf
    · exact Field.carriesRange_nat (by decide) (by decide)
    · exact Field.carriesRange_nat (by decide) (by norm_num; omega)
    · exact Field.carriesRange_nat (by decide) (by decide)
    · exact hrest f hf

theorem wireTypesLayout (d0 d1 d2 d3 : Int) :
    SetLayout 1 (wireTypeFields [d0, d1, d2, d3]) (fun _ => none) wireTypesOfValues wireTypesValues
      (fun w => w.e0.inRangeFor d0 ∧ w.e1.inRangeFor d1 ∧ w.e2.inRangeFor d2 ∧ w.e3.inRangeFor d3)
      wireTypesPayload where
  bytes w := by
    simp [wireTypesPayload, WireType.payload, wireTypeFields, wireTypesValues, WireType.values, writeFields, Field.nat]
  passes w h := by
    simp only [WireType.inRangeFor] at h
    refine ⟨?_, rfl⟩
    simp only [wireTypeFields, wireTypesValues, WireType.values, List.cons_append, List.nil_append, firstBad_cons_eq_none,
      firstBad_nil, Field.nat, Domain.holds_range, and_true]
    omega
  count w := rfl
  made w := by simp [wireTypesValues, WireType.values, wireTypesOfValues]
  covers vs hlen hfirst _ := by
    match vs, hlen with
    | [r0, m0, c0, r1, m1, c1, r2, m2, c2, r3, m3, c3], _ =>
      simp only [wireTypeFields, firstBad_cons_eq_none, Field.nat, Domain.holds_range] at hfirst
      constructor
      · simp only [WireType.inRangeFor, wireTypesOfValues]; omega
      · simp only [wireTypesValues, WireType.values, wireTypesOfValues]
        simp; omega

/-- A mask of five members is below 32. -/
theorem maskOf_members_range (c : Causes) : 0 ≤ (maskOf c.members : Int) ∧ (maskOf c.members : Int) ≤ 31 := by
  obtain ⟨b0, b1, b2, b3, b4⟩ := c
  revert b0 b1 b2 b3 b4
  decide

theorem Causes.ofMask_members (c : Causes) : Causes.ofMask (maskOf c.members) = c := by
  obtain ⟨b0, b1, b2, b3, b4⟩ := c
  revert b0 b1 b2 b3 b4
  decide

theorem maskOf_ofMask : ∀ n : Nat, n < 32 → maskOf (Causes.ofMask n).members = n := by decide

theorem reportingFields_carry : ∀ f ∈ reportingFields, f.carriesRange := by simp [reportingFields, Field.flag, Field.carriesRange_nat]

theorem reportingLayout :
    SetLayout 1 reportingFields (fun _ => none) ReportingSet.ofValues ReportingSet.values ReportingSet.inRange
      ReportingSet.payload where
  bytes r := by
    have hmask : toBytes 1 (maskOf r.mask.members : Int) = [maskByte r.mask.members] := by
      simp [toBytes, maskByte, BitVec.ofInt_natCast]
    simp only [ReportingSet.payload, reportingFields, ReportingSet.values, writeFields, Field.flag, Field.nat,
      toBytes_flagInt, hmask, List.append_nil, List.append_assoc]
    rfl
  passes r h := by
    have hstream := flagInt_range r.streaming
    have hmask := maskOf_members_range r.mask
    simp only [ReportingSet.inRange] at h
    refine ⟨?_, rfl⟩
    simp only [reportingFields, ReportingSet.values, firstBad_cons_eq_none, firstBad_nil, Field.flag, Field.nat,
      Domain.holds_range, and_true]
    omega
  count r := rfl
  made r := by simp [ReportingSet.values, ReportingSet.ofValues, Causes.ofMask_members]
  covers vs hlen hfirst _ := by
    match vs, hlen with
    | [on, mark, mask], _ =>
      simp only [reportingFields, firstBad_cons_eq_none, Field.flag, Field.nat, Domain.holds_range] at hfirst
      constructor
      · simp only [ReportingSet.inRange, ReportingSet.ofValues]; omega
      · simp only [ReportingSet.values, ReportingSet.ofValues]
        rw [flagInt_decide (by omega), maskOf_ofMask _ (by omega)]
        simp; omega

theorem calFields_carry : ∀ f ∈ calFields, f.carriesRange := by simp [calFields, Field.carriesRange_nat, Field.carriesRange_int]

theorem calLayout :
    SetLayout 0 calFields (fun _ => none) CalFields.ofValues CalFields.values CalFields.inRange CalFields.payload where
  bytes c := by simp [CalFields.payload, calFields, CalFields.values, writeFields, Field.nat, Field.int]
  passes c h := by
    refine ⟨?_, rfl⟩
    simp only [CalFields.inRange, within] at h
    simpa only [calFields, CalFields.values, firstBad_cons_eq_none, firstBad_nil, Field.nat, Field.int, Domain.holds_range,
      and_true] using h
  count c := rfl
  made c := rfl
  covers vs hlen hfirst _ := by
    match vs, hlen with
    | [lA, lB, hb, sp, g1, g2, g3, z1, z2, z3, al, t0, cr, tr, al1, ah, bl, bh, sn], _ =>
      simp only [calFields, firstBad_cons_eq_none, firstBad_nil, Field.nat, Field.int, Domain.holds_range, and_true] at hfirst
      exact ⟨hfirst, rfl⟩

end Sys2Proof.Machine
end

section
/-! Payload layouts and host requests: the ranges of a payload, and requests that are taken. -/

namespace Sys2Proof.Machine

/-! ### The ranges of a payload -/

theorem exposureRanges_eq (b : List Byte) : rangeProps exposureFields (readFields exposureFields b) = exposureRanges b := by
  simp [rangeProps, exposureFields, readFields, exposureRanges, within, fieldNat, ofBytes, Field.nat, Field.enumOf, Field.flag]

theorem odometryRanges_eq (b : List Byte) : rangeProps odometryFields (readFields odometryFields b) = odometryRanges b := by
  simp [rangeProps, odometryFields, readFields, odometryRanges, within, fieldNat, ofBytes, Field.nat, Field.enumOf]

theorem attitudeRanges_eq (b : List Byte) : rangeProps attitudeFields (readFields attitudeFields b) = attitudeRanges b := by
  simp [rangeProps, attitudeFields, readFields, attitudeRanges, within, fieldNat, ofBytes, Field.nat]

theorem markerRanges_eq (b : List Byte) : rangeProps markerFields (readFields markerFields b) = markerRanges b := by
  simp [rangeProps, markerFields, readFields, markerRanges, within, fieldNat, ofBytes, Field.nat, Field.enumOf, Field.flag]

theorem trackingRanges_eq (b : List Byte) : rangeProps trackingFields (readFields trackingFields b) = trackingRanges b := by
  simp [rangeProps, trackingFields, readFields, trackingRanges, within, fieldNat, ofBytes, Field.nat]

theorem lineRanges_eq (b : List Byte) : rangeProps lineFields (readFields lineFields b) = lineRanges b := by
  simp [rangeProps, lineFields, readFields, lineRanges, within, fieldNat, ofBytes, Field.nat]

theorem wireTypeRanges_eq (b : List Byte) :
    rangeProps (wireTypeFields (wireTypeDiameters b)) (readFields (wireTypeFields (wireTypeDiameters b)) b)
      = wireTypeRanges b 0 ++ wireTypeRanges b 6 ++ wireTypeRanges b 12 ++ wireTypeRanges b 18 := by
  simp [rangeProps, wireTypeFields, wireTypeDiameters, readFields, wireTypeRanges, within, fieldNat, ofBytes, Field.nat]

theorem reportingRanges_eq (b : List Byte) :
    rangeProps reportingFields (readFields reportingFields b) = reportingRanges b := by
  simp [rangeProps, reportingFields, readFields, reportingRanges, within, fieldNat, ofBytes, Field.nat, Field.flag]

theorem calRanges_eq (b : List Byte) : rangeProps calFields (readFields calFields b) = calRanges b := by
  simp [rangeProps, calFields, readFields, calRanges, within, fieldNat, fieldInt, ofBytes, Field.nat, Field.int]

/-! ### What the checks of the sets give -/

theorem checkExposure_payload {e : ExposureSet} (h : e.inRange) : checkExposure e.payload = .good e :=
  exposureLayout.check_payload exposureFields_carry h

theorem checkExposure_other {b : List Byte} (hlen : b.length = 17) (hno : ∀ e : ExposureSet, e.inRange → b ≠ e.payload) :
    ∃ i, checkExposure b = .bad i ∧ (1 ≤ i ∧ i < 14)
      ∧ failsAt 1 (exposureRanges b)
          (fieldNat b 6 1 < 2 * fieldNat b 10 2 ∧ fieldNat b 7 1 < 2 * fieldNat b 10 2) 8 i := by
  obtain ⟨i, hbad⟩ := exposureLayout.check_bad hlen hno
  rw [← exposureRanges_eq]
  refine ⟨i, hbad, failsAt_of_check hbad (fun j hj => ?_) (by decide) (by decide)⟩
  simpa [exposureRelation, exposureFields, readFields, Field.nat, Field.enumOf, Field.flag, ofBytes, fieldNat, eq_comm]
    using hj

theorem checkOdometry_payload {o : OdometrySet} (h : o.inRange) : checkOdometry o.payload = .good o :=
  odometryLayout.check_payload odometryFields_carry h

theorem checkOdometry_other {b : List Byte} (hlen : b.length = 8) (hno : ∀ o : OdometrySet, o.inRange → b ≠ o.payload) :
    ∃ i, checkOdometry b = .bad i ∧ (1 ≤ i ∧ i < 5) ∧ firstFails 1 (odometryRanges b) i := by
  obtain ⟨i, hbad⟩ := odometryLayout.check_bad hlen hno
  exact ⟨i, hbad, odometryRanges_eq b ▸ firstFails_of_check hbad⟩

theorem checkAttitude_payload {a : AttitudeSet} (h : a.inRange) : checkAttitude a.payload = .good a :=
  attitudeLayout.check_payload attitudeFields_carry h

theorem checkAttitude_other {b : List Byte} (hlen : b.length = 3) (hno : ∀ a : AttitudeSet, a.inRange → b ≠ a.payload) :
    ∃ i, checkAttitude b = .bad i ∧ (1 ≤ i ∧ i < 3)
      ∧ failsAt 1 (attitudeRanges b) (8 * (4 * fieldNat b 0 2) ≤ 1000 * fieldNat b 2 1) 2 i := by
  obtain ⟨i, hbad⟩ := attitudeLayout.check_bad hlen hno
  rw [← attitudeRanges_eq]
  refine ⟨i, hbad, failsAt_of_check hbad (fun j hj => ?_) (by decide) (by decide)⟩
  simp only [attitudeRelation, attitudeFields, readFields, Field.nat, Option.ite_none_right_eq_some, Option.some.injEq]
    at hj
  simp only [fieldNat, ofBytes, List.drop_zero, Bool.false_and, Bool.false_eq_true, if_false] at hj ⊢
  omega

theorem checkMarkers_payload {m : MarkerSet} (h : m.inRange) : checkMarkers m.payload = .good m :=
  markerLayout.check_payload markerFields_carry h

theorem checkMarkers_other {b : List Byte} (hlen : b.length = 15) (hno : ∀ m : MarkerSet, m.inRange → b ≠ m.payload) :
    ∃ i, checkMarkers b = .bad i ∧ (1 ≤ i ∧ i < 12) ∧ firstFails 1 (markerRanges b) i := by
  obtain ⟨i, hbad⟩ := markerLayout.check_bad hlen hno
  exact ⟨i, hbad, markerRanges_eq b ▸ firstFails_of_check hbad⟩

theorem checkTracking_payload {t : TrackingSet} (h : t.inRange) : checkTracking t.payload = .good t :=
  trackingLayout.check_payload trackingFields_carry h

theorem checkTracking_other {b : List Byte} (hlen : b.length = 19) (hno : ∀ t : TrackingSet, t.inRange → b ≠ t.payload) :
    ∃ i, checkTracking b = .bad i ∧ (1 ≤ i ∧ i < 14)
      ∧ failsAt 1 (trackingRanges b) (fieldNat b 11 2 < fieldNat b 13 2) 11 i := by
  obtain ⟨i, hbad⟩ := trackingLayout.check_bad hlen hno
  rw [← trackingRanges_eq]
  refine ⟨i, hbad, failsAt_of_check hbad (fun j hj => ?_) (by decide) (by decide)⟩
  simpa [trackingRelation, trackingFields, readFields, Field.nat, ofBytes, fieldNat, eq_comm] using hj

theorem checkLine_payload {l : LineSet} (h : l.inRange) : checkLine l.payload = .good l :=
  lineLayout.check_payload lineFields_carry h

theorem checkLine_other {b : List Byte} (hlen : b.length = 14) (hno : ∀ l : LineSet, l.inRange → b ≠ l.payload) :
    ∃ i, checkLine b = .bad i ∧ (1 ≤ i ∧ i < 11)
      ∧ failsAt 1 (lineRanges b) (fieldNat b 9 1 < fieldNat b 10 1) 8 i := by
  obtain ⟨i, hbad⟩ := lineLayout.check_bad hlen hno
  rw [← lineRanges_eq]
  refine ⟨i, hbad, failsAt_of_check hbad (fun j hj => ?_) (by decide) (by decide)⟩
  simpa [lineRelation, lineFields, readFields, Field.nat, ofBytes, fieldNat, eq_comm] using hj

@[simp] theorem WireType.payload_length (w : WireType) : w.payload.length = 6 := by simp [WireType.payload]

/-- The first field of an entry is its radius. -/
theorem WireType.read_radius {w : WireType} (h : w.radius ≤ 8000) (rest : List Byte) :
    ofBytes false ((w.payload ++ rest).take 2) = (w.radius : Int) := by
  have htake : (w.payload ++ rest).take 2 = toBytes 2 w.radius := by
    rw [WireType.payload, List.append_assoc, List.append_assoc]
    exact List.take_left' (toBytes_length 2 _)
  rw [htake]
  exact ofBytes_toBytes_unsigned 2 _ (by omega) (by norm_num; omega)

/-- A payload's diameters are the radii of the table it holds. -/
theorem wireTypeDiameters_payload {w : Four WireType} (h0 : w.e0.radius ≤ 8000) (h1 : w.e1.radius ≤ 8000)
    (h2 : w.e2.radius ≤ 8000) (h3 : w.e3.radius ≤ 8000) :
    wireTypeDiameters (wireTypesPayload w)
      = [(w.e0.radius : Int), (w.e1.radius : Int), (w.e2.radius : Int), (w.e3.radius : Int)] := by
  have hsplit : wireTypesPayload w = w.e0.payload ++ (w.e1.payload ++ (w.e2.payload ++ (w.e3.payload ++ []))) := by
    simp [wireTypesPayload]
  have hsix : ∀ (v : WireType) (rest : List Byte), (v.payload ++ rest).drop 6 = rest := fun v rest =>
    List.drop_left' v.payload_length
  have htwelve : (wireTypesPayload w).drop 12 = ((wireTypesPayload w).drop 6).drop 6 := by rw [List.drop_drop]
  have heighteen : (wireTypesPayload w).drop 18 = (((wireTypesPayload w).drop 6).drop 6).drop 6 := by
    rw [List.drop_drop, List.drop_drop]
  rw [wireTypeDiameters, htwelve, heighteen, hsplit]
  simp only [hsix, WireType.read_radius, h0, h1, h2, h3]

theorem checkWireTypes_payload {w : Four WireType} (h : wireTypesInRange w) :
    checkWireTypes (wireTypesPayload w) = .good w := by
  obtain ⟨h0, h1, h2, h3⟩ := h
  have hradius : ∀ {v : WireType}, v.inRange → v.radius ≤ 8000 := fun {v} hv => by
    simp only [WireType.inRange] at hv; omega
  rw [checkWireTypes, wireTypeDiameters_payload (hradius h0) (hradius h1) (hradius h2) (hradius h3)]
  refine (wireTypesLayout _ _ _ _).check_payload (wireTypeFields_carry ?_) ?_
  · have := hradius h0
    have := hradius h1
    have := hradius h2
    have := hradius h3
    simp only [List.mem_cons, List.not_mem_nil, or_false]
    rintro d (rfl | rfl | rfl | rfl) <;> omega
  · exact ⟨w.e0.inRange_iff.mp h0, w.e1.inRange_iff.mp h1, w.e2.inRange_iff.mp h2, w.e3.inRange_iff.mp h3⟩

theorem checkWireTypes_other {b : List Byte} (hlen : b.length = 24)
    (hno : ∀ w : Four WireType, wireTypesInRange w → b ≠ wireTypesPayload w) :
    ∃ i, checkWireTypes b = .bad i ∧ (1 ≤ i ∧ i < 13)
      ∧ firstFails 1 (wireTypeRanges b 0 ++ wireTypeRanges b 6 ++ wireTypeRanges b 12 ++ wireTypeRanges b 18) i := by
  refine Exists.imp (fun i hbad => ⟨hbad, wireTypeRanges_eq b ▸ firstFails_of_check hbad⟩)
    ((wireTypesLayout _ _ _ _).check_bad hlen ?_)
  rintro w ⟨h0, h1, h2, h3⟩ rfl
  refine hno w ?_ rfl
  have hradii := wireTypeDiameters_payload h0.1.2 h1.1.2 h2.1.2 h3.1.2
  simp only [wireTypeDiameters, List.cons.injEq, and_true] at hradii
  obtain ⟨e0, e1, e2, e3⟩ := hradii
  rw [e0] at h0
  rw [e1] at h1
  rw [e2] at h2
  rw [e3] at h3
  exact ⟨w.e0.inRange_iff.mpr h0, w.e1.inRange_iff.mpr h1, w.e2.inRange_iff.mpr h2, w.e3.inRange_iff.mpr h3⟩

theorem checkReporting_payload {r : ReportingSet} (h : r.inRange) : checkReporting r.payload = .good r :=
  reportingLayout.check_payload reportingFields_carry h

theorem checkReporting_other {b : List Byte} (hlen : b.length = 3) (hno : ∀ r : ReportingSet, r.inRange → b ≠ r.payload) :
    ∃ i, checkReporting b = .bad i ∧ (1 ≤ i ∧ i < 4) ∧ firstFails 1 (reportingRanges b) i := by
  obtain ⟨i, hbad⟩ := reportingLayout.check_bad hlen hno
  exact ⟨i, hbad, reportingRanges_eq b ▸ firstFails_of_check hbad⟩

theorem checkCal_payload {f : CalFields} (h : f.inRange) : checkCal f.payload = .good f :=
  calLayout.check_payload calFields_carry h

theorem checkCal_other {b : List Byte} (hlen : b.length = 59) (hno : ∀ f : CalFields, f.inRange → b ≠ f.payload) :
    ∃ i, checkCal b = .bad i ∧ i < 19 ∧ firstFails 0 (calRanges b) i := by
  obtain ⟨i, hbad⟩ := calLayout.check_bad hlen hno
  obtain ⟨⟨-, hhigh⟩, hfails⟩ := firstFails_of_check hbad
  exact ⟨i, hbad, by simpa [calFields] using hhigh, calRanges_eq b ▸ hfails⟩

/-! ### Requests that are taken (R163 to R165) -/

theorem State.wholeFrame_open {s : State} (hopen : s.link.handling = .openForRequests) (hslot : s.link.slot = none)
    (kind : Byte) (act : State → State) : s.wholeFrame kind act = act s.discarded := by
  simp only [State.wholeFrame, hopen, hslot]
  rfl

theorem State.request_taken {s : State} (h : s.takesRequests) (kind : Byte) {ok : Bool} (hok : ok = true)
    (act : State → State) : s.request kind ok act = act s.discarded := by
  obtain ⟨hopen, hslot, hstoring⟩ := h
  rw [State.request, State.wholeFrame_open hopen hslot, hok]
  simp [State.discarded, hstoring]

@[simp] theorem State.discarded_run (s : State) : s.discarded.run = s.run := rfl

@[simp] theorem State.discarded_cal (s : State) : s.discarded.cal = s.cal := rfl

theorem u8_eq (n : Nat) : u8 n = [BitVec.ofNat 8 n] := by simp [u8, toBytes, BitVec.ofInt_natCast]

/-- The answer of a request that a check refuses. -/
theorem State.refuseValue_discarded (s : State) (kind : Byte) (i : Nat) :
    s.discarded.refuseValue kind i = s.answered (kind + 0x80) [3, BitVec.ofNat 8 i] := by
  simp only [State.refuseValue, badValue, replyFrame, u8_eq]
  rfl

theorem State.setOrStage_bad {α : Type} {s : State} {set : Checked α} {i : Nat} (h : set = .bad i)
    (apply stage : α → Groups → Groups) :
    s.discarded.setOrStage set apply stage = s.answered 0x83 [3, BitVec.ofNat 8 i] := by
  rw [h]; exact s.refuseValue_discarded 0x03 i

theorem State.setOrStage_stopped {α : Type} {s : State} {set : Checked α} {x : α} (h : set = .good x)
    (hrun : s.run.state = .stopped) (apply stage : α → Groups → Groups) :
    s.discarded.setOrStage set apply stage = { s.answered 0x83 [0] with cfg := apply x s.cfg } := by
  rw [h]; exact if_pos hrun

theorem State.setOrStage_staged {α : Type} {s : State} {set : Checked α} {x : α} (h : set = .good x)
    (hrun : s.run.state ≠ .stopped) (apply stage : α → Groups → Groups) :
    s.discarded.setOrStage set apply stage = { s.answered 0x83 [1] with cfg := stage x s.cfg } := by
  rw [h]; exact if_neg hrun

theorem State.setInStopped_bad {α : Type} {s : State} (hrun : s.run.state = .stopped) {set : Checked α} {i : Nat}
    (h : set = .bad i) (apply : α → Groups → Groups) :
    s.discarded.setInStopped set apply = s.answered 0x83 [3, BitVec.ofNat 8 i] := by
  rw [h]; exact (if_pos hrun).trans (s.refuseValue_discarded 0x03 i)

theorem State.setInStopped_good {α : Type} {s : State} (hrun : s.run.state = .stopped) {set : Checked α} {x : α}
    (h : set = .good x) (apply : α → Groups → Groups) :
    s.discarded.setInStopped set apply = { s.answered 0x83 [0] with cfg := apply x s.cfg } := by
  rw [h]; exact if_pos hrun

/-! ### SET_GROUP of each group (R38, R40, R49, R58, R89, R113, R114, R154) -/

theorem exec_setGroupExposure {s : State} (h : s.takesRequests) {b : List Byte} (hlen : b.length = 17) :
    exec (.setGroupExposure b) s =
      .next (s.discarded.setOrStage (checkExposure b) setExposure stageExposure).settle := by
  rw [exec, execSetGroupExposure, State.request_taken h _ (by simpa using hlen)]; rfl

theorem exec_setGroupLine {s : State} (h : s.takesRequests) {b : List Byte} (hlen : b.length = 14) :
    exec (.setGroupLine b) s = .next (s.discarded.setOrStage (checkLine b) setLine stageLine).settle := by
  rw [exec, execSetGroupLine, State.request_taken h _ (by simpa using hlen)]; rfl

theorem exec_setGroupOdometry {s : State} (h : s.takesRequests) {b : List Byte} (hlen : b.length = 8) :
    exec (.setGroupOdometry b) s =
      .next (s.discarded.setInStopped (checkOdometry b) fun v g => { g with odometry := v }).settle := by
  rw [exec, execSetGroupOdometry, State.request_taken h _ (by simpa using hlen)]; rfl

theorem exec_setGroupAttitude {s : State} (h : s.takesRequests) {b : List Byte} (hlen : b.length = 3) :
    exec (.setGroupAttitude b) s =
      .next (s.discarded.setInStopped (checkAttitude b) fun v g => { g with attitude := v }).settle := by
  rw [exec, execSetGroupAttitude, State.request_taken h _ (by simpa using hlen)]; rfl

theorem exec_setGroupMarkers {s : State} (h : s.takesRequests) {b : List Byte} (hlen : b.length = 15) :
    exec (.setGroupMarkers b) s =
      .next (s.discarded.setInStopped (checkMarkers b) fun v g => { g with markers := v }).settle := by
  rw [exec, execSetGroupMarkers, State.request_taken h _ (by simpa using hlen)]; rfl

theorem exec_setGroupTracking {s : State} (h : s.takesRequests) {b : List Byte} (hlen : b.length = 19) :
    exec (.setGroupTracking b) s =
      .next (s.discarded.setInStopped (checkTracking b) fun v g => { g with tracking := v }).settle := by
  rw [exec, execSetGroupTracking, State.request_taken h _ (by simpa using hlen)]; rfl

theorem exec_setGroupWireTypes {s : State} (h : s.takesRequests) {b : List Byte} (hlen : b.length = 24) :
    exec (.setGroupWireTypes b) s =
      .next (s.discarded.setInStopped (checkWireTypes b) fun v g => { g with wireTypes := v }).settle := by
  rw [exec, execSetGroupWireTypes, State.request_taken h _ (by simpa using hlen)]; rfl

theorem exec_setGroupReporting {s : State} (h : s.takesRequests) {b : List Byte} (hlen : b.length = 3) :
    exec (.setGroupReporting b) s = .next (s.discarded.setReporting (checkReporting b)).settle := by
  rw [exec, execSetGroupReporting, State.request_taken h _ (by simpa using hlen)]; rfl

/-- Settles O25: the EXPOSURE and the LINE set by their layouts. -/
theorem exposureAndLineSetsAreTakenOrStaged : Obligations.ExposureAndLineSetsAreTakenOrStaged := by
  intro s h
  refine ⟨fun e he => ?_, fun b hlen hno => ?_, fun l hl => ?_, fun b hlen hno => ?_⟩
  · rw [exec_setGroupExposure h (by simp [ExposureSet.payload])]
    exact ⟨fun hrun => by rw [State.setOrStage_stopped (checkExposure_payload he) hrun]; rfl,
      fun hrun => by rw [State.setOrStage_staged (checkExposure_payload he) hrun]; rfl⟩
  · obtain ⟨i, hbad, ⟨hlow, hhigh⟩, hfails⟩ := checkExposure_other hlen hno
    exact ⟨i, hlow, Nat.lt_succ_iff.mp hhigh, hfails, by
      rw [exec_setGroupExposure h hlen, State.setOrStage_bad hbad]⟩
  · rw [exec_setGroupLine h (by simp [LineSet.payload])]
    exact ⟨fun hrun => by rw [State.setOrStage_stopped (checkLine_payload hl) hrun]; rfl,
      fun hrun => by rw [State.setOrStage_staged (checkLine_payload hl) hrun]; rfl⟩
  · obtain ⟨i, hbad, ⟨hlow, hhigh⟩, hfails⟩ := checkLine_other hlen hno
    exact ⟨i, hlow, Nat.lt_succ_iff.mp hhigh, hfails, by rw [exec_setGroupLine h hlen, State.setOrStage_bad hbad]⟩

/-- Settles O26: the sets that only STOPPED takes, by their layouts. -/
theorem setsAreTakenInStopped : Obligations.SetsAreTakenInStopped := by
  intro s h hrun
  refine ⟨fun o ho => ?_, fun b hlen hno => ?_, fun a ha => ?_, fun b hlen hno => ?_, fun m hm => ?_, fun b hlen hno => ?_,
    fun t ht => ?_, fun b hlen hno => ?_, fun w hw => ?_, fun b hlen hno => ?_⟩
  · rw [exec_setGroupOdometry h (by simp [OdometrySet.payload]), State.setInStopped_good hrun (checkOdometry_payload ho)]
  · obtain ⟨i, hbad, ⟨hlow, hhigh⟩, hfails⟩ := checkOdometry_other hlen hno
    exact ⟨i, hlow, Nat.lt_succ_iff.mp hhigh, hfails, by
      rw [exec_setGroupOdometry h hlen, State.setInStopped_bad hrun hbad]⟩
  · rw [exec_setGroupAttitude h (by simp [AttitudeSet.payload]), State.setInStopped_good hrun (checkAttitude_payload ha)]
  · obtain ⟨i, hbad, ⟨hlow, hhigh⟩, hfails⟩ := checkAttitude_other hlen hno
    exact ⟨i, hlow, Nat.lt_succ_iff.mp hhigh, hfails, by
      rw [exec_setGroupAttitude h hlen, State.setInStopped_bad hrun hbad]⟩
  · rw [exec_setGroupMarkers h (by simp [MarkerSet.payload]), State.setInStopped_good hrun (checkMarkers_payload hm)]
  · obtain ⟨i, hbad, ⟨hlow, hhigh⟩, hfails⟩ := checkMarkers_other hlen hno
    exact ⟨i, hlow, Nat.lt_succ_iff.mp hhigh, hfails, by
      rw [exec_setGroupMarkers h hlen, State.setInStopped_bad hrun hbad]⟩
  · rw [exec_setGroupTracking h (by simp [TrackingSet.payload]), State.setInStopped_good hrun (checkTracking_payload ht)]
  · obtain ⟨i, hbad, ⟨hlow, hhigh⟩, hfails⟩ := checkTracking_other hlen hno
    exact ⟨i, hlow, Nat.lt_succ_iff.mp hhigh, hfails, by
      rw [exec_setGroupTracking h hlen, State.setInStopped_bad hrun hbad]⟩
  · rw [exec_setGroupWireTypes h (by simp [wireTypesPayload, WireType.payload]),
      State.setInStopped_good hrun (checkWireTypes_payload hw)]
  · obtain ⟨i, hbad, ⟨hlow, hhigh⟩, hfails⟩ := checkWireTypes_other hlen hno
    exact ⟨i, hlow, Nat.lt_succ_iff.mp hhigh, hfails, by
      rw [exec_setGroupWireTypes h hlen, State.setInStopped_bad hrun hbad]⟩

/-- Settles O27: REPORTING by its layout. -/
theorem reportingSetIsTaken : Obligations.ReportingSetIsTaken := by
  intro s h
  refine ⟨fun r hr => ?_, fun b hlen hno => ?_⟩
  · rw [exec_setGroupReporting h (by simp [ReportingSet.payload]), checkReporting_payload hr]; rfl
  · obtain ⟨i, hbad, ⟨hlow, hhigh⟩, hfails⟩ := checkReporting_other hlen hno
    refine ⟨i, hlow, Nat.lt_succ_iff.mp hhigh, hfails, ?_⟩
    rw [exec_setGroupReporting h hlen, hbad]
    exact congrArg (fun t => Host.Outcome.next t.settle) (s.refuseValue_discarded 0x03 i)

end Sys2Proof.Machine
end

section
/-! Layouts that read back: calibration blocks, RETURNS frames, host requests, records (statements O11 to O13, O28, O60). -/

namespace Sys2Proof.Machine

/-! ### The calibration block (R173, R175, R176) -/

theorem calBytes_eq (f : CalFields) : calBytes f = f.payload := (calLayout.bytes f).symm

theorem calImage_eq (f : CalFields) : calImage f = f.payload ++ toBytes 4 (crc32 f.payload).toNat := by
  rw [calImage, calBytes_eq]

@[simp] theorem CalFields.payload_length (f : CalFields) : f.payload.length = 59 := by simp [CalFields.payload]

/-- A block of 59 bytes and their CRC-32 is checked by its fields. -/
theorem checkBlock_of_crc {p : List Byte} (hlen : p.length = 59) :
    checkBlock (p ++ toBytes 4 (crc32 p).toNat) =
      match checkCal p with
      | .good f => .passes f
      | .bad i => .fieldFails i := by
  rw [checkBlock, calFieldBytes, List.take_left' hlen, List.drop_left' hlen]
  exact if_pos rfl

/-- Settles O60: by the layout of the calibration fields. -/
theorem calibrationIsWrittenReadAndStored : Obligations.CalibrationIsWrittenReadAndStored := by
  intro s
  refine ⟨fun h hrun => ⟨fun f hf => ?_, fun b hlen hno => ?_, ?_⟩, fun h => ?_, fun hidle block => ?_, fun hstoring block => ?_⟩
  · rw [exec, execWriteCal, State.request_taken h _ (by simp [calFieldBytes]), State.discarded_run, if_pos hrun, checkCal_payload hf]
    rfl
  · obtain ⟨i, hbad, hhigh, hfails⟩ := checkCal_other hlen hno
    refine ⟨i, Nat.lt_succ_iff.mp hhigh, hfails, ?_⟩
    rw [exec, execWriteCal, State.request_taken h _ (by exact decide_eq_true hlen), State.discarded_run, if_pos hrun, hbad]
    exact congrArg (fun t => Host.Outcome.next t.settle) (s.refuseValue_discarded 0x0F i)
  · rw [exec, execStoreCal, State.request_taken h _ (by rfl), State.discarded_run, if_pos hrun]
    rfl
  · rw [exec, execReadCal, State.request_taken h _ (by rfl), readCalBytes, calBytes_eq]
    rfl
  · simp only [exec, execCalStoreDone, hidle]
    rfl
  · rw [exec, execCalStoreDone, if_pos hstoring, State.endStore, calImage_eq]
    exact ⟨fun heq => by rw [if_pos heq]; rfl, fun hne => by rw [if_neg hne]; rfl⟩

/-! ### RETURNS frames (R3, R200) -/

theorem natOfBytes_toBytes_of_lt {w n : Nat} (h : n < 256 ^ w) : natOfBytes (toBytes w n) = n := by
  have hmod := natOfBytes_toBytes w n
  rw [Int.emod_eq_of_lt (by omega) (by omega)] at hmod
  omega

@[simp] theorem returnBytes_length (r : HeadReturn) : (returnBytes r).length = 8 := by simp [returnBytes]

theorem natOfBytes_flagByte (b : Bool) : (natOfBytes [flagByte b]).testBit 0 = b := by cases b <;> rfl

/-- The bytes of a return within the ranges of spec 1.1 read back. -/
theorem readReturn_returnBytes {r : HeadReturn} (hx : within (-32768) 32767 r.xh) (hz : r.zh ≤ 30000) (hw : r.wh ≤ 20000)
    (hp : r.peak ≤ 255) (rest : List Byte) : readReturn r.place (returnBytes r ++ rest) = r := by
  obtain ⟨hlow, hhigh⟩ := hx
  have hxh : ofBytes true (toBytes 2 r.xh) = r.xh :=
    ofBytes_toBytes_signed 2 r.xh (by norm_num; omega) (by norm_num; omega)
  have hzh : natOfBytes (toBytes 2 r.zh) = r.zh := natOfBytes_toBytes_of_lt (by norm_num; omega)
  have hwh : natOfBytes (toBytes 2 r.wh) = r.wh := natOfBytes_toBytes_of_lt (by norm_num; omega)
  have hpeak : natOfBytes (toBytes 1 r.peak) = r.peak := natOfBytes_toBytes_of_lt (by norm_num; omega)
  have hsat := natOfBytes_flagByte r.saturated
  change HeadReturn.mk (ofBytes true (toBytes 2 r.xh)) (natOfBytes (toBytes 2 r.zh)) (natOfBytes (toBytes 2 r.wh))
    (natOfBytes (toBytes 1 r.peak)) ((natOfBytes [flagByte r.saturated]).testBit 0) r.place = r
  rw [hxh, hzh, hwh, hpeak, hsat]

theorem readReturns_returnBytes (rs : List HeadReturn) :
    ∀ place, rs.map HeadReturn.place = List.range' place rs.length →
      (∀ r ∈ rs, within (-32768) 32767 r.xh ∧ r.zh ≤ 30000 ∧ r.wh ≤ 20000 ∧ r.peak ≤ 255) →
      readReturns rs.length place (rs.map returnBytes).flatten = rs := by
  induction rs with
  | nil => intros; rfl
  | cons r rs ih =>
    intro place hplaces hranges
    simp only [List.map_cons, List.length_cons, List.range'_succ, List.cons.injEq] at hplaces
    obtain ⟨rfl, hrest⟩ := hplaces
    obtain ⟨hx, hz, hw, hp⟩ := hranges r (List.mem_cons_self ..)
    simp only [List.length_cons, readReturns, List.map_cons, List.flatten_cons]
    rw [readReturn_returnBytes hx hz hw hp, List.drop_left' (returnBytes_length r),
      ih _ hrest fun q hq => hranges q (List.mem_cons_of_mem r hq)]

theorem returnBytes_flatten_length (rs : List HeadReturn) : ((rs.map returnBytes).flatten).length = 8 * rs.length := by
  induction rs with
  | nil => rfl
  | cons r rs ih =>
    rw [List.map_cons, List.flatten_cons, List.length_append, ih, returnBytes_length, List.length_cons]
    omega

theorem checkReturns_returnsBytes {f : ReturnsFrame} (h : f.inRange) : checkReturns (returnsBytes f) = .valid f := by
  obtain ⟨hcount, hplaces, hranges⟩ := h
  have hn : (BitVec.ofNat 8 f.returns.length).toNat = f.returns.length := by
    rw [BitVec.toNat_ofNat]; omega
  have hall : f.returns.all HeadReturn.inRange = true := by
    rw [List.all_eq_true]
    intro r hr
    obtain ⟨-, hz, hw, -⟩ := hranges r hr
    simp [HeadReturn.inRange, hz, hw]
  rw [List.range_eq_range'] at hplaces
  simp only [returnsBytes, checkReturns, hn, returnBytes_flatten_length, readReturns_returnBytes _ 0 hplaces hranges, hall]
  rw [if_neg (by omega)]
  rfl

/-- Settles O12: by the layouts of the calibration fields and of a return. -/
theorem blocksAndReturnsReadBack : Obligations.BlocksAndReturnsReadBack := by
  refine ⟨fun f hf => ⟨?_, calImage_eq f⟩, fun f hf => ⟨checkReturns_returnsBytes hf, fun crc => ?_⟩⟩
  · rw [checkBlock_of_crc f.payload_length, checkCal_payload hf]
  · by_cases hcrc : crc = crc16 (toBytes 2 (returnsBytes f).length ++ 0x41 :: returnsBytes f)
    · rw [if_pos hcrc, checkHeadFrame, crcBytes, if_neg (not_not.mpr hcrc), if_neg (not_not.mpr rfl),
        checkReturns_returnsBytes hf]
    · rw [if_neg hcrc, checkHeadFrame, crcBytes, if_pos hcrc]

/-! ### Host requests (R161, R198, R201) -/

/-- The bytes of a frame whose payload fits are that frame. -/
theorem parseFrame_frameBytes {f : Frame} (h : f.payload.length ≤ maxPayload) : parseFrame (frameBytes f) = some f := by
  have hlen : natOfBytes (toBytes 2 f.payload.length) = f.payload.length :=
    natOfBytes_toBytes_of_lt (by simp only [maxPayload] at h; norm_num; omega)
  have hbytes : toBytes 2 (f.payload.length : Int)
      = [BitVec.ofInt 8 f.payload.length, BitVec.ofInt 8 ((f.payload.length : Int) / 256)] := rfl
  rw [hbytes] at hlen
  simp only [frameBytes, crcBytes, hbytes, List.cons_append, List.nil_append, parseFrame, hlen, h]
  simp [hbytes]

theorem frameOfRequest_length {c : Instr} {f : Frame} (hwf : c.wellFormed = true) (hf : frameOfRequest c = some f) :
    f.payload.length ≤ maxPayload := by
  cases c with
  | unknownRequest k p => cases hf; exact of_decide_eq_true (Bool.and_eq_true_iff.mp hwf).1
  | setGroupExposure | setGroupOdometry | setGroupAttitude | setGroupMarkers | setGroupTracking | setGroupLine
  | setGroupWireTypes | setGroupReporting => cases hf; exact of_decide_eq_true hwf
  | _ => cases hf <;> exact of_decide_eq_true hwf

/-- A frame of no request's kind and group stands for itself. -/
theorem requestOfFrame_unknown {k : Byte} {p : List Byte} (h : isUnknownFrame k p = true) (rsv : Bool) :
    requestOfFrame rsv ⟨k, p⟩ = .unknownRequest k p := by
  unfold isUnknownFrame at h
  split at h
  · next hkind =>
    subst hkind
    show setGroupOfPayload p = _
    match p with
    | [] => rfl
    | g :: set =>
      have hgroup : 8 ≤ g.toNat := of_decide_eq_true h
      unfold setGroupOfPayload
      dsimp only
      split <;> first | omega | rfl
  · next hkind =>
    have hother : k.toNat ≠ 3 := fun hthree => hkind (BitVec.eq_of_toNat_eq hthree)
    have hrange : k.toNat = 0 ∨ 0x13 < k.toNat := by simpa using h
    unfold requestOfFrame
    dsimp only
    split <;> first | omega | rfl

/-- Settles O11: the envelope of a frame reads back, and its kind, for SET_GROUP with its group code, names the request. -/
theorem hostRequestBytesDecodeBack : Obligations.HostRequestBytesDecodeBack := by
  intro c f rsv hwf hf hrsv
  rw [commandOfBytes, parseFrame_frameBytes (frameOfRequest_length hwf hf), Option.map_some]
  cases c with
  | unknownRequest k p =>
    cases hf
    rw [requestOfFrame_unknown (by simpa [Instr.wellFormed] using (Bool.and_eq_true_iff.mp hwf).2)]
  | exposeOnce p r => cases hf; rw [hrsv p r rfl]; rfl
  | _ => cases hf <;> rfl

end Sys2Proof.Machine
end

section
/-! Lengths of what the part sends, GET_GROUP, resets and the start-up (statements O1, O9, O13, O16, O17, O28). -/

namespace Sys2Proof.Machine

/-! ### Lengths (R202 to R204) -/

@[simp] theorem u8_length (n : Nat) : (u8 n).length = 1 := toBytes_length 1 n

@[simp] theorem u16_length (n : Nat) : (u16 n).length = 2 := toBytes_length 2 n

@[simp] theorem u32_length (n : Nat) : (u32 n).length = 4 := toBytes_length 4 n

@[simp] theorem i32_length (v : Int) : (i32 v).length = 4 := toBytes_length 4 v

@[simp] theorem w32_length (v : Word32) : (w32 v).length = 4 := toBytes_length 4 v.toNat

@[simp] theorem Summary.bytes_length (s : Summary) : s.bytes.length = 48 := by simp [Summary.bytes]

theorem Summary.bytes_flatten_length (ss : List Summary) : ((ss.map Summary.bytes).flatten).length = 48 * ss.length := by
  induction ss with
  | nil => rfl
  | cons s ss ih =>
    rw [List.map_cons, List.flatten_cons, List.length_append, ih, Summary.bytes_length, List.length_cons]
    omega

theorem SpanRec.bytes_length (r : SpanRec) : r.bytes.length = 38 + 48 * r.summaries.length := by
  have hflat := Summary.bytes_flatten_length r.summaries
  unfold SpanRec.bytes
  generalize (r.summaries.map Summary.bytes).flatten = summaries at hflat ⊢
  simp only [List.length_append, u8_length, u16_length, i32_length, w32_length, List.length_singleton, hflat]

theorem Event.bytes_length (e : Event) : e.bytes.length = 18 + e.body.bytes.length := by
  simp only [Event.bytes, List.length_append, w32_length, i32_length, u8_length]

/-- The size that a fetch and a report count for an event is the length of its kind's layout. -/
theorem Event.size_eq (e : Event) : e.size = 18 + e.body.bytes.length := by
  unfold Event.size
  cases e.body <;> simp [EventBody.bytes]

theorem Live.slotBytes_length (l : Live) {n : Nat} (h : n < 8) :
    (l.slotBytes n).length = if n = 0 then 11 else if n = 1 then 17 else if n = 2 then 6 else if n = 3 then 15 else 24 := by
  have htrack : ∀ t : LiveTrack, t.bytes.length = 23 := fun t => by simp [LiveTrack.bytes]
  match n, h with
  | 0, _ => simp [Live.slotBytes, LiveTravel.bytes]
  | 1, _ => simp [Live.slotBytes, LiveAttitude.bytes]
  | 2, _ => simp [Live.slotBytes, LiveTemp.bytes]
  | 3, _ => simp [Live.slotBytes, LiveExpo.bytes]
  | 4, _ | 5, _ | 6, _ | 7, _ => simp [Live.slotBytes, htrack]

/-- Settles O13: the lengths of the layouts, field by field. -/
theorem recordsHaveTheirLayoutLength : Obligations.RecordsHaveTheirLayoutLength :=
  ⟨fun r => ⟨r.bytes_length, r.bytes_length.symm⟩, fun e => ⟨e.bytes_length, e.size_eq.trans e.bytes_length.symm⟩,
    fun l _ h => l.slotBytes_length h⟩

/-! ### GET_GROUP (R171) -/

theorem maskByte_single (b : Bool) : maskByte [b] = flagByte b := by cases b <;> rfl

theorem stagedBytes_eq {α : Type} (staged : Option α) (bytes : α → List Byte) (n : Nat) :
    stagedBytes (staged.map bytes) n = flagByte staged.isSome :: staged.elim (List.replicate n 0) bytes := by
  cases staged <;> simp [stagedBytes, maskByte_single]

/-- A group code that names a group is answered with its bytes. -/
theorem exec_getGroup {s : State} (h : s.takesRequests) {g : Byte} (hg : g.toNat < 8) :
    exec (.getGroup [g]) s = .next (s.answered 0x84 (0 :: groupBytes s.cfg g.toNat)).settle := by
  have hcheck : checkFields 0 groupFields (fun _ => none) (fun vs => vs.headD 0) [g] = .good (g.toNat : Int) := by
    simp [checkFields, groupFields, readFields, firstBad, Field.enumOf, Field.nat, ofBytes, natOfBytes,
      show g.toNat ≤ 7 by omega]
  rw [exec, execGetGroup, State.request_taken h _ (by rfl), hcheck]
  rfl

theorem exposureBytes_eq : exposureBytes = ExposureSet.payload := funext fun e => (exposureLayout.bytes e).symm

theorem lineBytes_eq : lineBytes = LineSet.payload := funext fun l => (lineLayout.bytes l).symm

theorem groupBytes_exposure (g : Groups) :
    0 :: groupBytes g (0 : Byte).toNat = [0, 0] ++ g.exposure.payload ++ [flagByte g.stagedExposure.isSome]
      ++ g.stagedExposure.elim (List.replicate 17 0) ExposureSet.payload := by
  change 0 :: (u8 0 ++ exposureBytes g.exposure ++ stagedBytes (g.stagedExposure.map exposureBytes) 17) = _
  rw [stagedBytes_eq, exposureBytes_eq, List.append_cons]
  rfl

theorem groupBytes_line (g : Groups) :
    0 :: groupBytes g (5 : Byte).toNat = [0, 5] ++ g.line.payload ++ [flagByte g.stagedLine.isSome]
      ++ g.stagedLine.elim (List.replicate 14 0) LineSet.payload := by
  change 0 :: (u8 5 ++ lineBytes g.line ++ stagedBytes (g.stagedLine.map lineBytes) 14) = _
  rw [stagedBytes_eq, lineBytes_eq, List.append_cons]
  rfl

theorem groupBytes_odometry (g : Groups) : 0 :: groupBytes g (1 : Byte).toNat = [0, 1] ++ g.odometry.payload := by
  rw [odometryLayout.bytes]; rfl

theorem groupBytes_attitude (g : Groups) : 0 :: groupBytes g (2 : Byte).toNat = [0, 2] ++ g.attitude.payload := by
  rw [attitudeLayout.bytes]; rfl

theorem groupBytes_markers (g : Groups) : 0 :: groupBytes g (3 : Byte).toNat = [0, 3] ++ g.markers.payload := by
  rw [markerLayout.bytes]; rfl

theorem groupBytes_tracking (g : Groups) : 0 :: groupBytes g (4 : Byte).toNat = [0, 4] ++ g.tracking.payload := by
  rw [trackingLayout.bytes]; rfl

theorem groupBytes_wireTypes (g : Groups) :
    0 :: groupBytes g (6 : Byte).toNat = [0, 6] ++ wireTypesPayload g.wireTypes := by
  rw [(wireTypesLayout 0 0 0 0).bytes]; rfl

theorem groupBytes_reporting (g : Groups) : 0 :: groupBytes g (7 : Byte).toNat = [0, 7] ++ g.reporting.payload := by
  rw [reportingLayout.bytes]; rfl

/-- Settles O28: each group's bytes are the layout that a host gives it. -/
theorem getGroupAnswersTheSets : Obligations.GetGroupAnswersTheSets := by
  intro s h
  refine ⟨?_, ?_, ?_, ?_, ?_, ?_, ?_, ?_, fun g hg => ?_⟩
  · rw [exec_getGroup h (by decide), groupBytes_exposure]
  · rw [exec_getGroup h (by decide), groupBytes_odometry]
  · rw [exec_getGroup h (by decide), groupBytes_attitude]
  · rw [exec_getGroup h (by decide), groupBytes_markers]
  · rw [exec_getGroup h (by decide), groupBytes_tracking]
  · rw [exec_getGroup h (by decide), groupBytes_line]
  · rw [exec_getGroup h (by decide), groupBytes_wireTypes]
  · rw [exec_getGroup h (by decide), groupBytes_reporting]
  · have hcheck : checkFields 0 groupFields (fun _ => none) (fun vs => vs.headD 0) [g] = .bad 0 := by
      simp [checkFields, groupFields, readFields, firstBad, Field.enumOf, Field.nat, ofBytes, natOfBytes,
        show ¬ g.toNat ≤ 7 by omega]
    rw [exec, execGetGroup, State.request_taken h _ (by rfl), hcheck]
    rfl

end Sys2Proof.Machine
end

section
/-! The step, resets, the start-up and the link (statements O1, O9, O15 to O23). -/

namespace Sys2Proof.Machine

/-! ### The step and the state after reset -/

/-- Settles O1: by the two cases of the step. -/
theorem stepRunsTheFrontCommand : Obligations.StepRunsTheFrontCommand := by
  refine ⟨fun _ _ _ => rfl, fun s hempty => ?_⟩
  simp only [step, hempty, State.tick]

/-- Settles O9: the fixed reset state, block by block. -/
theorem resetMeetsTheInvariants : Obligations.ResetMeetsTheInvariants := by
  have hfaults : ∀ r ∈ State.reset.rep.faults, r.count ≤ 65535 := by
    simp [State.reset, State.startUp, Report.initial, FaultRecord.empty]
  have hidle : ∀ k : Ix, (State.reset.mark.channels.get k).state = .idle := by intro k; cases k <;> rfl
  have hclosed : ∀ k : Ix, State.reset.span.monitors.get k = .closed := by intro k; cases k <;> rfl
  have hfree : ∀ k : Ix, (State.reset.trk.tracks.get k).state = .free := by intro k; cases k <;> rfl
  have hnoId : ∀ k : Ix, (State.reset.trk.tracks.get k).wireId = none := by intro k; cases k <;> rfl
  refine ⟨?bounded, ?exposure, ?spans, ?ids, ?gaps, fun _ => ⟨hidle, rfl⟩, rfl⟩
  case bounded =>
    exact
      { table := Nat.zero_le _
        queues := ⟨Nat.zero_le _, Nat.zero_le _⟩
        flight := fun hfly => by cases hfly
        phase := Nat.zero_le _
        heads := ⟨⟨Nat.zero_le _, by decide⟩, ⟨Nat.zero_le _, by decide⟩⟩
        speed := ⟨by decide, by decide⟩
        accumulator := ⟨by decide, by decide⟩
        faults := ⟨rfl, hfaults⟩
        counts := ⟨Nat.zero_le _, Nat.zero_le _, Nat.zero_le _, Nat.zero_le _, Nat.zero_le _, Nat.zero_le _⟩ }
  case exposure => exact ⟨⟨by decide, fun _ => rfl, by decide, by decide, by decide⟩, fun _ => by decide⟩
  case spans => exact ⟨by decide, by decide, by decide, fun _ => hclosed⟩
  case ids =>
    refine ⟨by decide, fun k hk => ?_, fun k _ => hnoId k, fun j k _ hj _ => ?_⟩
    · rw [hfree k] at hk; cases hk
    · rw [hfree j] at hj; cases hj
  case gaps => exact ⟨⟨rfl, by simp [State.reset, State.startUp, Report.initial], by simp [State.reset, State.startUp, Report.initial]⟩,
    rfl, by simp [State.reset, State.startUp, Report.initial, SpanQueue.waiting],
    by simp [State.reset, State.startUp, Report.initial, SpanQueue.waiting]⟩

/-! ### The queues (R148, R151) -/

/-- Settles O15: by whether the queue has room. -/
theorem queuesStoreOrCountTheLoss : Obligations.QueuesStoreOrCountTheLoss := by
  intro pos at_ time body rec r hlen
  refine ⟨fun hroom => ?_, fun hfull => ?_, fun hroom => ?_, fun hfull => ?_⟩
  · exact if_pos hroom
  · rw [Report.storeSpan, if_neg (by simpa [spanCapacity] using hfull)]
    rw [Report.count_eq (by exact hlen)]
    rfl
  · exact Report.produce_of_room hroom _ _ _ _
  · rw [Report.produce_of_full hfull, Report.count_eq (by exact hlen)]
    rfl

/-! ### Resets (R160, R172, R177) -/

/-- What a power-on reset starts from. -/
theorem exec_powerOnReset (pins : PinLevels) (written : Bool) (s : State) :
    exec (.powerOnReset pins written) s =
      .next (State.startUp pins (rateOf pins.rate1 pins.rate0) .powerOn (s.blockAfterPowerLoss written)
        (if s.cal.storing then s.free + 1 else s.free) s.pending) := rfl

theorem invertLast_concat (bs : List Byte) (b : Byte) : invertLast (bs ++ [b]) = bs ++ [~~~ b] := by
  induction bs with
  | nil => rfl
  | cons c bs ih =>
    cases bs with
    | nil => rfl
    | cons d bs => exact congrArg (c :: ·) ih

theorem byte_ne_not (b : Byte) : b ≠ ~~~ b := by
  revert b
  decide

/-- A block whose last byte is inverted no longer carries its CRC-32. -/
theorem checkBlock_invertLast {bs : List Byte} (hlen : bs.length = 63) {f : CalFields} (h : checkBlock bs = .passes f) :
    checkBlock (invertLast bs) = .crcFails := by
  obtain ⟨front, b, rfl⟩ := bs.eq_nil_or_concat.resolve_left (by rintro rfl; cases hlen)
  rw [List.concat_eq_append] at *
  have hfront : front.length = 62 := by simpa using hlen
  have hcrc : (front ++ [b]).drop 59 = toBytes 4 (crc32 ((front ++ [b]).take 59)).toNat := by
    unfold checkBlock at h
    dsimp only at h
    split at h
    · next hcrc => exact hcrc
    · cases h
  have htake : ∀ c : Byte, (front ++ [c]).take 59 = front.take 59 := fun c => List.take_append_of_le_length (by omega)
  have hdrop : ∀ c : Byte, (front ++ [c]).drop 59 = front.drop 59 ++ [c] := fun c =>
    List.drop_append_of_le_length (by omega)
  rw [invertLast_concat, checkBlock]
  refine if_neg ?_
  rw [calFieldBytes, htake, hdrop, ← htake b, ← hcrc, hdrop, List.append_cancel_left_eq]
  intro heq
  exact byte_ne_not b (List.singleton_inj.mp heq).symm

theorem fitBlock_length (bs : List Byte) : (fitBlock bs).length = 63 := by simp [fitBlock]

theorem invertLast_length (bs : List Byte) : (invertLast bs).length = bs.length := by
  rcases bs.eq_nil_or_concat with rfl | ⟨front, b, rfl⟩
  · rfl
  · rw [List.concat_eq_append, invertLast_concat]; simp

/-- R177: a torn block has its 63 bytes and fails its check. -/
theorem tornBlock_fails (n : Nat) : (tornBlock n).length = 63 ∧ ∀ f : CalFields, checkBlock (tornBlock n) ≠ .passes f := by
  have hlen := fitBlock_length (Config.tornBlock n)
  unfold tornBlock
  dsimp only
  split
  · next hpasses =>
    refine ⟨(invertLast_length _).trans hlen, fun f hf => ?_⟩
    cases (checkBlock_invertLast hlen hpasses).symm.trans hf
  · next hcrc => exact ⟨hlen, fun f hf => by cases hcrc.symm.trans hf⟩
  · next hfield => exact ⟨hlen, fun f hf => by cases hfield.symm.trans hf⟩

/-- Settles O16: the start-up state, and the three cases of an interrupted store. -/
theorem powerOnResetStartsUp : Obligations.PowerOnResetStartsUp := by
  intro pins written s
  have hrate : rateOf pins.rate1 pins.rate0 = _ := rfl
  refine ⟨fun hidle => ?_, fun hstoring hdone => ?_, fun hstoring hcut => ?_⟩
  · rw [exec_powerOnReset, State.blockAfterPowerLoss, hidle]; rfl
  · rw [exec_powerOnReset, State.blockAfterPowerLoss, hstoring, hdone]; rfl
  · obtain ⟨hlen, hfails⟩ := tornBlock_fails s.free
    refine ⟨tornBlock s.free, ?_, hlen, hfails⟩
    rw [exec_powerOnReset, State.blockAfterPowerLoss, hstoring, hcut]; rfl

/-- The state that a soft reset leaves. -/
theorem State.softReset_settle (s : State) : s.softReset.settle = s.softReset := State.startUp_settle _ _ _ _ _ _

theorem State.armLeaving_eq_false_iff (s : State) : s.armLeaving = false ↔ s.heads.a.arm = none ∧ s.heads.b.arm = none := by
  simp [State.armLeaving]

/-- The end of a frame that is not a SPAN_REPORT frees the transmitter. -/
theorem State.endFrame_other {f : Frame} (h : f.kind ≠ 0x62) (s : State) :
    s.endFrame f = { s with link := { s.link with tx := none } } := if_neg h

/-- The end of a SPAN_REPORT lands its record. -/
theorem State.endFrame_span {f : Frame} (h : f.kind = 0x62) {s : State} (hfly : s.rep.spans.inFlight = true) :
    s.endFrame f =
      { s with
        link := { s.link with tx := none }
        rep := { s.rep with spans := { s.rep.spans with items := s.rep.spans.items.drop 1, inFlight := false } } } := by
  simp only [State.endFrame, if_pos h, SpanQueue.landed, hfly]
  rfl

theorem exec_hostTxFrameDone {s : State} {f : Frame} (h : s.link.tx = some f) :
    exec .hostTxFrameDone s = .next (s.endFrame f).closeLink.settle := by
  simp only [exec, execHostTxFrameDone, h]
  rfl

theorem State.endFrame_link (f : Frame) (s : State) : (s.endFrame f).link = { s.link with tx := none } := by
  unfold State.endFrame
  dsimp only
  split <;> rfl

/-- Settles O18: by what the end of the reply finds. -/
theorem resetPartResetsAfterItsReply : Obligations.ResetPartResetsAfterItsReply := by
  intro s
  refine ⟨fun h => ?_, fun f g hclosing hslot htx => ?_, fun f hclosing hslot htx hkind => ?_, fun h f hdue harm hother => ?_⟩
  · rw [exec, execResetPart, State.request_taken h _ (by rfl)]; rfl
  · have hstays : (s.endFrame f).closeLink = s.endFrame f := by
      refine if_neg ?_
      rw [State.endFrame_link]
      rintro ⟨-, hempty⟩
      cases hslot.symm.trans hempty
    rw [exec_hostTxFrameDone htx, hstays]
    exact ⟨fun hkind => by rw [State.endFrame_other hkind], fun hkind hfly => by rw [State.endFrame_span hkind hfly]⟩
  · rw [exec_hostTxFrameDone htx, State.endFrame_other hkind, State.closeLink, if_pos ⟨hclosing, hslot⟩]
    refine ⟨fun ha hb => ?_, fun harm => ?_⟩
    · rw [if_neg (by simp [State.armLeaving, ha, hb]), State.softReset_settle]
      rfl
    · rw [if_pos]
      by_contra hnone
      obtain ⟨ha, hb⟩ := (State.armLeaving_eq_false_iff _).mp (Bool.eq_false_iff.mpr hnone)
      exact harm.elim (· ha) (· hb)
  · have hfreed : ((s.advanceTo f.due).changeHead h fun l => { l with arm := none }).armLeaving = false := by
      rw [State.armLeaving_eq_false_iff]
      cases h
      · exact ⟨rfl, hother .b (by decide)⟩
      · exact ⟨hother .a (by decide), rfl⟩
    have hsent : (s.advanceTo f.due).armSent h = s.softReset := by
      rw [State.armSent, if_neg (by simp [hfreed])]
      exact if_pos hdue
    simp only [exec, execArmFrameSent, harm, hsent, finish, State.softReset_settle]
    rfl

/-- Settles O23: by what the frame was. -/
theorem frameEndsFreeTheTransmitter : Obligations.FrameEndsFreeTheTransmitter := by
  intro s
  refine ⟨fun htx => ?_, fun f htx hopen => ?_⟩
  · simp only [exec, execHostTxFrameDone, htx]
    rfl
  · have hstays : (s.endFrame f).closeLink = s.endFrame f := by
      refine if_neg ?_
      rw [State.endFrame_link]
      exact fun h => hopen h.1
    rw [exec_hostTxFrameDone htx, hstays]
    exact ⟨fun hkind hfly => by rw [State.endFrame_span hkind hfly], fun hkind => by rw [State.endFrame_other hkind]⟩

/-! ### Receive errors (R162) -/

theorem State.abandonHostFrame_inFrame {s : State} (hrx : s.link.receiver = .inFrame) (hopen : s.link.handling ≠ .starting)
    (r : LinkReason) :
    s.abandonHostFrame r =
      State.raise .linkFrame { qualifier := r.code, number := 0 }
        { s with link := ({ s.link with receiver := .hunting } : Link).countError r } := if_pos ⟨hrx, hopen⟩

theorem State.abandonHostFrame_idle {s : State} (h : s.link.receiver = .hunting ∨ s.link.handling = .starting)
    (r : LinkReason) : s.abandonHostFrame r = s := by
  refine if_neg ?_
  rintro ⟨hrx, hopen⟩
  rcases h with h | h
  · cases hrx.symm.trans h
  · exact hopen h

/-- Settles O22: a frame being received is abandoned, and otherwise there is none. -/
theorem hostReceiveErrorsAreCounted : Obligations.HostReceiveErrorsAreCounted := by
  intro s
  refine ⟨fun hrx hopen => ?_, fun h => ?_, fun hopen => ?_, fun hstart => ?_⟩
  · refine ⟨?_, ?_, ?_, ?_⟩
    · simp only [exec, execHostByteGapTimeout, State.abandonHostFrame_inFrame hrx hopen]; rfl
    · simp only [exec, execHostFrameError, State.abandonHostFrame_inFrame hrx hopen]; rfl
    · simp only [exec, execHostFrameError, State.abandonHostFrame_inFrame hrx hopen]; rfl
    · simp only [exec, execHostFrameError, State.abandonHostFrame_inFrame hrx hopen]; rfl
  · refine ⟨?_, fun r => ?_⟩
    · simp only [exec, execHostByteGapTimeout, State.abandonHostFrame_idle h]; rfl
    · cases r <;> simp only [exec, execHostFrameError, State.abandonHostFrame_idle h] <;> rfl
  · exact if_neg hopen
  · exact if_pos hstart

/-! ### Requests that are not taken (R163, R164) -/

/-- A host request is handled as a whole frame of its kind. -/
theorem exec_wholeFrame {c : Instr} {f : Frame} (h : frameOfRequest c = some f) (s : State) :
    ∃ act, exec c s = finish ((c.sampled s).wholeFrame f.kind act) := by
  cases c with
  | _ => cases h <;> exact ⟨_, rfl⟩

theorem sampled_link (c : Instr) (s : State) : (c.sampled s).link = s.link := by
  cases c <;> rfl

/-- Settles O19: by the handling that the frame finds. -/
theorem framesOutsideOpenAreDiscarded : Obligations.FramesOutsideOpenAreDiscarded := by
  intro c f s hf
  obtain ⟨act, hexec⟩ := exec_wholeFrame hf s
  rw [hexec]
  refine ⟨fun hstart => ?_, fun hclosing => ?_, fun hheld => ?_⟩
  · simp only [State.wholeFrame, sampled_link, hstart]; rfl
  · simp only [State.wholeFrame, sampled_link, hclosing]; rfl
  · have hoverrun : (c.sampled s).wholeFrame f.kind act =
        State.raise .linkOverrun { qualifier := 0, number := f.kind.toNat } (c.sampled s).discarded := by
      rcases hheld with h | h | ⟨h, hslot⟩
      · simp only [State.wholeFrame, sampled_link, h]; rfl
      · simp only [State.wholeFrame, sampled_link, h]; rfl
      · simp only [State.wholeFrame, sampled_link, h]
        exact if_pos (Option.isSome_iff_ne_none.mpr hslot)
    rw [hoverrun]; rfl

theorem RunState.acting_eq_true_iff (r : RunState) : r.acting = true ↔ r = .armed ∨ r = .measuring := by
  cases r <;> decide

/-- A known request but STATUS is checked for its length and a store, and refuses the run states that its rule does not
name. -/
theorem exec_request {c : Instr} {f : Frame} {n : Nat} (hf : frameOfRequest c = some f) (hn : c.requestLength = some n)
    (hstatus : ∀ p : List Byte, c ≠ .status p) (s : State) :
    ∃ act, exec c s = finish ((c.sampled s).request f.kind (decide (c.operandBytes.length = n)) act)
      ∧ ∀ t : State, ¬ c.takenIn t → act t = t.refuse f.kind .wrongState := by
  cases c with
  | status p => exact absurd rfl (hstatus p)
  | setGroupOdometry | setGroupAttitude | setGroupMarkers | setGroupTracking | setGroupWireTypes | startRun | writeCal
  | storeCal | calTemperature =>
    cases hf; cases hn
    exact ⟨_, rfl, fun t h => if_neg h⟩
  | stopRun | operatorMark =>
    cases hf; cases hn
    exact ⟨_, rfl, fun t h => if_pos (not_not.mp h)⟩
  | exposeOnce p r =>
    cases hf; cases hn
    refine ⟨_, rfl, fun t h => if_neg fun hproduces => h ?_⟩
    rw [State.produces, Bool.and_eq_true, decide_eq_true_eq, RunState.acting_eq_true_iff] at hproduces
    exact hproduces
  | setGroupExposure | setGroupLine | setGroupReporting | identify | getGroup | readLive | fetchSpans | fetchEvents
  | ackAttention | readFaults | clearFaults | readCal | resetPart =>
    cases hf; cases hn
    exact ⟨_, rfl, fun t h => absurd trivial h⟩
  | _ => cases hn

theorem takenIn_sampled {c : Instr} {s : State} (h : ¬ c.takenIn s) : ¬ c.takenIn (c.sampled s).discarded := by
  cases c <;> exact h

theorem sampled_storing (c : Instr) (s : State) : (c.sampled s).cal = s.cal := by
  cases c <;> rfl

theorem State.refuse_discarded (s : State) (kind : Byte) (status : Status) :
    s.discarded.refuse kind status = s.answered (kind + 0x80) [status.code] := rfl

/-- Settles O20: length, store and run state are checked in this order. -/
theorem requestsAreRefusedInTheirOrder : Obligations.RequestsAreRefusedInTheirOrder := by
  refine ⟨fun c f n s hf hn hopen hslot => ?_, fun k p s hopen hslot => ?_⟩
  · by_cases hstatus : ∃ p, c = .status p
    · obtain ⟨p, rfl⟩ := hstatus
      cases hf; cases hn
      refine ⟨fun hlen => ?_, fun _ _ hother => absurd rfl (hother p), fun _ _ htaken => absurd trivial htaken⟩
      rw [exec, execStatus, State.wholeFrame_open hopen hslot, if_neg (show ¬ p.length = 0 from hlen)]
      rfl
    · obtain ⟨act, hexec, hrefuses⟩ := exec_request hf hn (fun p hp => hstatus ⟨p, hp⟩) s
      have hrequest : ∀ t, (c.sampled s).request f.kind (decide (c.operandBytes.length = n)) act = t →
          exec c s = .next t.settle := fun t ht => by rw [hexec, ht]; rfl
      have hhandling : (c.sampled s).link.handling = .openForRequests := by rw [sampled_link]; exact hopen
      have hempty : (c.sampled s).link.slot = none := by rw [sampled_link]; exact hslot
      rw [State.request, State.wholeFrame_open hhandling hempty] at hrequest
      refine ⟨fun hlen => hrequest _ ?_, fun hlen hstoring _ => hrequest _ ?_, fun hlen hidle htaken => hrequest _ ?_⟩
      · simp only [hlen, decide_false, Bool.not_false, if_true, State.refuse_discarded, Status.code]
      · simp only [hlen, decide_true, Bool.not_true, State.discarded_cal, sampled_storing, hstoring, if_true,
          State.refuse_discarded, Status.code]
        rfl
      · simp only [hlen, decide_true, Bool.not_true, State.discarded_cal, sampled_storing, hidle,
          hrefuses _ (takenIn_sampled htaken), State.refuse_discarded, Status.code]
        rfl
  · have hframe : ∀ t, (if k = 0x03 then s.discarded.unknownGroup p else s.discarded.refuse k .unknownRequest) = t →
        exec (.unknownRequest k p) s = .next t.settle := fun t ht => by
      rw [exec, execUnknownRequest, State.wholeFrame_open hopen hslot, ht]; rfl
    refine ⟨fun hk => hframe _ (if_neg hk), fun hk hp => hframe _ ?_, fun hk hp hstoring => hframe _ ?_,
      fun hk hp hidle => hframe _ ?_⟩
    · rw [if_pos hk, hp]; rfl
    · obtain ⟨g, set, rfl⟩ := List.exists_cons_of_ne_nil hp
      rw [if_pos hk]
      exact if_pos hstoring
    · obtain ⟨g, set, rfl⟩ := List.exists_cons_of_ne_nil hp
      rw [if_pos hk]
      exact if_neg (by simp [hidle])

end Sys2Proof.Machine
end

section
/-! The start-up load, IDENTIFY and STATUS, and what the fault requests answer (statements O17, O21). -/

namespace Sys2Proof.Machine

/-! ### The load (R167, R174) -/

theorem exec_calLoadDone {s : State} (h : s.link.handling = .starting) :
    exec .calLoadDone s = .next s.loadCalibration.settle := if_pos h

/-- R167: the end of the load opens request handling, with the READY_REPORT pending. -/
def State.opened (t : State) : State :=
  { t with link := { t.link with readyPending := true, handling := .openForRequests, receiver := .hunting } }

/-- R174: the working copy and the status after a load. -/
def State.loaded (work : CalFields) (valid : Bool) (s : State) : State :=
  { s with cal := { s.cal with work := work, valid := valid, modified := false, storing := false, lastResult := .none } }

theorem State.loadCalibration_passes {s : State} {f : CalFields} (h : checkBlock s.cal.block = .passes f) :
    s.loadCalibration = (s.loaded f true).opened := by
  simp only [State.loadCalibration, raiseCalInvalid, Calibration.load, h]
  rfl

theorem State.loadCalibration_crcFails {s : State} (h : checkBlock s.cal.block = .crcFails) :
    s.loadCalibration =
      State.opened (State.raise .calInvalid { qualifier := 0, number := 0 } (s.loaded .initial false)) := by
  simp only [State.loadCalibration, raiseCalInvalid, Calibration.load, h]
  rfl

theorem State.loadCalibration_fieldFails {s : State} {i : Nat} (h : checkBlock s.cal.block = .fieldFails i) :
    s.loadCalibration =
      State.opened (State.raise .calInvalid { qualifier := 1, number := i } (s.loaded .initial false)) := by
  simp only [State.loadCalibration, raiseCalInvalid, Calibration.load, h]
  rfl

/-- The condition that fails first is the one that the check names. -/
theorem checkCal_of_firstFails {b : List Byte} {i : Nat} (h : firstFails 0 (calRanges b) i) : checkCal b = .bad i := by
  rw [← calRanges_eq, firstFails_rangeProps] at h
  exact (checkFields_eq_bad_iff ..).mpr (.inl h)

/-- With the READY_REPORT pending and the transmitter idle, it begins. -/
theorem State.settle_ready {s : State} (htx : s.link.tx = none) (hopen : s.link.handling = .openForRequests)
    (hready : s.link.readyPending = true) :
    s.settle.link = { s.link with readyPending := false, tx := some (readyReport s) } ∧ s.settle.cal = s.cal := by
  have harbitrate : s.arbitrate =
      State.begin (readyReport s) { s with link := { s.link with readyPending := false } } := by
    simp [State.arbitrate, htx, hopen, hready]
  simp only [State.settle, harbitrate]
  exact ⟨rfl, rfl⟩

theorem State.loadCalibration_link (s : State) :
    s.loadCalibration.link = { s.link with readyPending := true, handling := .openForRequests, receiver := .hunting } := by
  unfold State.loadCalibration raiseCalInvalid
  split <;> simp

/-- Settles O17: by what the block's check finds. -/
theorem calLoadOpensTheLink : Obligations.CalLoadOpensTheLink := by
  intro s
  refine ⟨fun hstart => ⟨fun f hf hblock => ?_, fun hcrc => ?_, fun f i hlen hblock hfails => ?_, fun htx => ?_⟩,
    fun hother => if_neg hother⟩
  · have hpasses : checkBlock s.cal.block = .passes f := by
      rw [hblock, checkBlock_of_crc f.payload_length, checkCal_payload hf]
    rw [exec_calLoadDone hstart, State.loadCalibration_passes hpasses]
    rfl
  · rw [exec_calLoadDone hstart, State.loadCalibration_crcFails (if_neg hcrc)]
    rfl
  · have hfield : checkBlock s.cal.block = .fieldFails i := by
      rw [hblock, checkBlock_of_crc hlen, checkCal_of_firstFails hfails]
    rw [exec_calLoadDone hstart, State.loadCalibration_fieldFails hfield]
    rfl
  · have hlink := s.loadCalibration_link
    obtain ⟨hready, hcal⟩ := State.settle_ready (s := s.loadCalibration) (by rw [hlink]; exact htx) (by rw [hlink])
      (by rw [hlink])
    refine ⟨_, exec_calLoadDone hstart, by rw [hready], ?_⟩
    rw [hready, hcal, readyReport, hlink]
    rfl

/-! ### The fault records in code order (R169, R186, R188) -/

theorem FaultCode.all_zip {r : Report} (h : r.faults.length = 23) :
    FaultCode.all.zip r.faults = FaultCode.all.map fun c => (c, r.record c) := by
  refine List.ext_getElem (by simp [FaultCode.all, h]) fun i hi _ => ?_
  have hlt : i < 23 := by simpa [FaultCode.all, h] using hi
  have hindex : ∀ j (hj : j < 23), (FaultCode.all[j]'(by simpa [FaultCode.all] using hj)).index = j := by decide
  simp [Report.record, hindex i hlt, List.getElem?_eq_getElem (l := r.faults) (by omega : i < r.faults.length)]

theorem sum_map_ite {α : Type} (p : α → Prop) [DecidablePred p] (f : α → Nat) (xs : List α) :
    (xs.map fun x => if p x then f x else 0).sum = ((xs.filter fun x => p x).map f).sum := by
  induction xs with
  | nil => rfl
  | cons x xs ih => by_cases hx : p x <;> simp [hx, ih]

/-- R169: a class's total is the sum of its codes' counters. -/
theorem classTotal_eq {r : Report} (h : r.faults.length = 23) (cls : FaultClass) :
    classTotal cls r.faults = ((FaultCode.all.filter fun c => c.class = cls).map fun c => (r.record c).count).sum := by
  rw [classTotal, FaultCode.all_zip h, List.map_map]
  exact sum_map_ite (fun c : FaultCode => c.class = cls) (fun c => (r.record c).count) FaultCode.all

/-! ### IDENTIFY and STATUS (R168, R169) -/

/-- Settles O21: the layouts of both replies. -/
theorem identifyAndStatusAnswer : Obligations.IdentifyAndStatusAnswer := by
  refine ⟨fun s h => ?_, fun s hopen hslot => ?_⟩
  · rw [exec, execIdentify, State.request_taken h _ (by rfl)]
    rfl
  · intro total hlen
    have htotal : ∀ cls, classTotal cls s.rep.faults = total cls := classTotal_eq hlen
    rw [exec, execStatus, State.wholeFrame_open hopen hslot, if_pos (by rfl)]
    refine congrArg (fun b => Host.Outcome.next (s.answered 0x82 b).settle) ?_
    change 0 :: statusBytes s = _
    simp only [statusBytes, statusRun, statusTravel, statusExposure, statusHead, statusQueues, statusLink, totalBytes,
      htotal, List.append_assoc, List.cons_append]
    rfl

end Sys2Proof.Machine
end

section
/-! The transmit arbiter, fetches, READ_LIVE and the fault requests (statements O24, O58, O59). -/

namespace Sys2Proof.Machine

/-! ### Taking what fits (R150, R153) -/

/-- What is left begins with an item that no longer fits, unless as many were taken as may be. -/
theorem takeFitting_maximal {α : Type} (size : α → Nat) : ∀ (n room : Nat) (xs : List α) (x : α),
    (takeFitting size n room xs).2.head? = some x →
      (takeFitting size n room xs).1.length = n ∨ room < ((takeFitting size n room xs).1.map size).sum + size x
  | 0, _, _, _, _ => .inl rfl
  | n + 1, _, [], _, h => by cases h
  | n + 1, room, y :: ys, x, h => by
    unfold takeFitting at h ⊢
    split
    · next hy =>
      rw [if_pos hy] at h
      rcases takeFitting_maximal size n (room - size y) ys x h with hlen | hroom
      · exact .inl (by simp [hlen])
      · refine .inr ?_
        simp only [List.map_cons, List.sum_cons]
        omega
    · next hy =>
      rw [if_neg hy] at h
      cases h
      exact .inr (by simpa using Nat.lt_of_not_le hy)

/-- An event fits an empty report or reply. -/
theorem Event.size_le (e : Event) : e.size ≤ 39 := by
  unfold Event.size
  split <;> decide

theorem takeFitting_ne_nil {α : Type} {size : α → Nat} {n room : Nat} {xs : List α} (hxs : xs ≠ []) (hn : 0 < n)
    (hfits : ∀ x ∈ xs, size x ≤ room) : (takeFitting size n room xs).1 ≠ [] := by
  match n, hn, xs, hxs with
  | n + 1, _, x :: xs, _ =>
    rw [takeFitting, if_pos (hfits x (List.mem_cons_self ..))]
    exact List.cons_ne_nil _ _

/-! ### The arbiter's choices (R166) -/

theorem State.arbitrate_of_quiet {s : State} (h : s.link.tx ≠ none ∨ s.link.handling = .starting) : s.arbitrate = s := by
  unfold State.arbitrate
  split
  · rfl
  · next htx =>
    have hidle : s.link.tx = none := by simpa using htx
    rw [h.resolve_left (fun hbusy => hbusy hidle)]

theorem State.arbitrate_closing {s : State} (htx : s.link.tx = none) (h : s.link.handling = .closing) :
    s.arbitrate =
      match s.link.slot with
      | some f => State.begin f { s with link := { s.link with slot := none } }
      | none => s := by
  rw [State.arbitrate, htx, h]
  rfl

/-- The arbiter in the conditions that serve every frame. -/
theorem State.arbitrate_serving {s : State} (htx : s.link.tx = none) (hstart : s.link.handling ≠ .starting)
    (hclose : s.link.handling ≠ .closing) :
    s.arbitrate =
      if s.link.readyPending then State.begin (readyReport s) { s with link := { s.link with readyPending := false } }
      else
        match s.link.slot with
        | some f => State.begin f { s with link := { s.link with slot := none } }
        | none => s.offerReports := by
  rw [State.arbitrate, htx]
  cases hh : s.link.handling with
  | starting => exact absurd hh hstart
  | closing => exact absurd hh hclose
  | openForRequests | heldForStop | heldForTemperature => rfl

/-- What the arbiter may change. -/
theorem State.arbitrate_changes (s : State) :
    ∃ (link : Link) (items : List Event) (flying : Bool),
      s.arbitrate = { s with
                      link := link
                      rep := { s.rep with
                               events := { s.rep.events with items := items }
                               spans := { s.rep.spans with inFlight := flying } } } := by
  unfold State.arbitrate State.offerReports
  repeat' split
  all_goals exact ⟨_, _, _, rfl⟩

theorem State.offerReports_events {s : State} (hstream : s.cfg.reporting.streaming = true) (hevents : s.rep.events.items ≠ []) :
    s.offerReports =
      State.begin (eventReport (takeFitting Event.size eventCapacity 1023 s.rep.events.items).1)
        { s with
          rep := { s.rep with
                   events := { s.rep.events with
                               items := (takeFitting Event.size eventCapacity 1023 s.rep.events.items).2 } } } := by
  rw [State.offerReports, if_pos hstream, if_pos hevents]

theorem State.offerReports_span {s : State} (hstream : s.cfg.reporting.streaming = true) (hevents : s.rep.events.items = [])
    {r : SpanRec} {rs : List SpanRec} (hspans : s.rep.spans.items = r :: rs) (hground : s.rep.spans.inFlight = false) :
    s.offerReports =
      State.begin (spanReport r) { s with rep := { s.rep with spans := { s.rep.spans with inFlight := true } } } := by
  rw [State.offerReports, if_pos hstream, if_neg (not_not.mpr hevents)]
  simp only [hspans, hground]
  rfl

theorem State.offerReports_none {s : State}
    (h : s.cfg.reporting.streaming = false
      ∨ (s.rep.events.items = [] ∧ (s.rep.spans.items = [] ∨ s.rep.spans.inFlight = true))) : s.offerReports = s := by
  rcases h with hoff | ⟨hevents, hspans⟩
  · rw [State.offerReports, if_neg (by simp [hoff])]
  · unfold State.offerReports
    split
    · rw [if_neg (not_not.mpr hevents)]
      split
      · next r rs hitems =>
        rcases hspans with hempty | hfly
        · cases hempty.symm.trans hitems
        · exact if_pos hfly
      · rfl
    · rfl

/-- Settles O24: the arbiter's choices in their order. -/
theorem arbiterChoosesInOrder : Obligations.ArbiterChoosesInOrder := by
  intro s
  have hlink : s.settle.link = s.arbitrate.link := rfl
  have hevents : s.settle.rep.events = s.arbitrate.rep.events := rfl
  have hspans : s.settle.rep.spans = s.arbitrate.rep.spans := rfl
  have hquiet : s.arbitrate = s →
      s.settle.link = s.link ∧ s.settle.rep.events = s.rep.events ∧ s.settle.rep.spans = s.rep.spans := fun h => by
    rw [hlink, hevents, hspans, h]
    exact ⟨rfl, rfl, rfl⟩
  dsimp only
  refine ⟨?changes, s.settle_attnFollows, fun h => hquiet (State.arbitrate_of_quiet h), fun hidle hserving hready => ?ready,
    fun f hidle hcase hslot => ?reply, fun hidle hreports hitems => ?events,
    fun r rs hidle hreports hnone hitems hground => ?span, fun hidle hcase => hquiet ?nothing⟩
  case changes =>
    obtain ⟨link, items, flying, harb⟩ := s.arbitrate_changes
    refine ⟨link, items, flying, s.settle.rep.attn, ?_⟩
    rw [State.settle, harb]
    rfl
  case ready =>
    rw [hlink, hevents, hspans, State.arbitrate_serving (not_not.mp hidle) hserving.1 hserving.2, if_pos hready]
    exact ⟨rfl, rfl, rfl⟩
  case reply =>
    have harb : s.arbitrate = State.begin f { s with link := { s.link with slot := none } } := by
      rcases hcase with ⟨hserving, hready⟩ | hclosing
      · rw [State.arbitrate_serving (not_not.mp hidle) hserving.1 hserving.2, if_neg (by simp [hready]), hslot]
      · rw [State.arbitrate_closing (not_not.mp hidle) hclosing, hslot]
    rw [hlink, hevents, hspans, harb]
    exact ⟨rfl, rfl, rfl⟩
  case events =>
    obtain ⟨hserving, hready, hslot, hstream⟩ := hreports
    have harb : s.arbitrate = s.offerReports := by
      rw [State.arbitrate_serving (not_not.mp hidle) hserving.1 hserving.2, if_neg (by simp [hready]), hslot]
    rw [State.offerReports_events hstream hitems] at harb
    obtain ⟨hsplit, -, hroom⟩ := takeFitting_spec Event.size eventCapacity 1023 s.rep.events.items
    have hsome := takeFitting_ne_nil (size := Event.size) (room := 1023) hitems (by decide : 0 < eventCapacity)
      fun e _ => Nat.le_trans e.size_le (by decide)
    rw [hlink, hevents, hspans, harb]
    exact ⟨_, hsome, hsplit.symm, rfl, rfl, hroom, fun e he => takeFitting_maximal _ _ _ _ e he⟩
  case span =>
    obtain ⟨hserving, hready, hslot, hstream⟩ := hreports
    have harb : s.arbitrate = s.offerReports := by
      rw [State.arbitrate_serving (not_not.mp hidle) hserving.1 hserving.2, if_neg (by simp [hready]), hslot]
    rw [State.offerReports_span hstream hnone hitems hground] at harb
    rw [hlink, hevents, hspans, harb]
    exact ⟨rfl, rfl, rfl⟩
  case nothing =>
    rcases hcase with ⟨hclosing, hslot⟩ | ⟨hserving, hready, hslot, hnone⟩
    · rw [State.arbitrate_closing (not_not.mp hidle) hclosing, hslot]
    · rw [State.arbitrate_serving (not_not.mp hidle) hserving.1 hserving.2, if_neg (by simp [hready]), hslot]
      exact State.offerReports_none hnone

end Sys2Proof.Machine
end

section
/-! READ_LIVE, the fetches, attention and the fault requests (statements O58, O59). -/

namespace Sys2Proof.Machine

/-! ### Requests of one and two bytes -/

/-- A byte within the range of a one-byte request. -/
theorem checkByte_good {lo hi : Int} {b : Byte} (h : within lo hi b.toNat) :
    checkFields 0 [.nat 1 lo hi] (fun _ => none) (fun vs => vs.headD 0) [b] = .good (b.toNat : Int) := by
  have hvalue : ofBytes false [b] = (b.toNat : Int) := by simp [ofBytes, natOfBytes]
  obtain ⟨hlow, hhigh⟩ := h
  simp [checkFields, readFields, firstBad, Field.nat, hvalue, hlow, hhigh]

theorem checkByte_bad {lo hi : Int} {b : Byte} (h : ¬ within lo hi b.toNat) :
    checkFields 0 [.nat 1 lo hi] (fun _ => none) (fun vs => vs.headD 0) [b] = .bad 0 := by
  have hvalue : ofBytes false [b] = (b.toNat : Int) := by simp [ofBytes, natOfBytes]
  refine (checkFields_eq_bad_iff ..).mpr (.inl ?_)
  simp only [readFields, firstBad, Field.nat, Domain.holds_range, List.take_succ_cons, List.take_zero, hvalue]
  exact if_neg h

theorem exec_fetchSpans_bad {s : State} (h : s.takesRequests) : exec (.fetchSpans [0]) s = .next (s.answered 0x8A [3, 0]).settle := by
  rw [exec, execFetchSpans, State.request_taken h _ (by rfl), fetchFields, checkByte_bad (by simp [within])]
  rfl

theorem exec_fetchEvents_bad {s : State} (h : s.takesRequests) : exec (.fetchEvents [0]) s = .next (s.answered 0x8B [3, 0]).settle := by
  rw [exec, execFetchEvents, State.request_taken h _ (by rfl), fetchFields, checkByte_bad (by simp [within])]
  rfl

theorem fetch_range {most : Byte} (h : most ≠ 0) : within 1 255 most.toNat := by
  have hne : most.toNat ≠ 0 := fun hzero => h (BitVec.eq_of_toNat_eq hzero)
  have hlt := most.isLt
  exact ⟨by omega, by omega⟩

theorem SpanQueue.available_eq (q : SpanQueue) : q.available = q.waiting.length := by
  unfold SpanQueue.available SpanQueue.waiting
  split
  · exact (List.length_drop ..).symm
  · rfl

theorem SpanQueue.items_eq (q : SpanQueue) : q.items = q.flying ++ q.waiting := by
  unfold SpanQueue.flying SpanQueue.waiting
  split
  · exact (List.take_append_drop 1 q.items).symm
  · rfl

theorem exec_fetchSpans {s : State} (h : s.takesRequests) {most : Byte} (hmost : most ≠ 0) :
    exec (.fetchSpans [most]) s = .next (s.discarded.fetchSpans most.toNat).settle := by
  rw [exec, execFetchSpans, State.request_taken h _ (by rfl), fetchFields, checkByte_good (fetch_range hmost)]
  rfl

theorem exec_fetchEvents {s : State} (h : s.takesRequests) {most : Byte} (hmost : most ≠ 0) :
    exec (.fetchEvents [most]) s = .next (s.discarded.fetchEvents most.toNat).settle := by
  rw [exec, execFetchEvents, State.request_taken h _ (by rfl), fetchFields, checkByte_good (fetch_range hmost)]
  rfl

/-! ### READ_LIVE (R156) -/

theorem range_filter_between (a b : Nat) : ∀ n : Nat,
    (List.range n).filter (fun k => decide (a ≤ k) && decide (k < b)) = (List.range (min n b - a)).map fun k => a + k := by
  intro n
  induction n with
  | zero => simp
  | succ n ih =>
    rw [List.range_succ, List.filter_append, ih]
    by_cases hin : a ≤ n ∧ n < b
    · obtain ⟨hlow, hhigh⟩ := hin
      rw [show min (n + 1) b - a = (min n b - a) + 1 by omega, List.range_succ, List.map_append]
      simp [hlow, hhigh]
      omega
    · rw [show min (n + 1) b - a = min n b - a by omega]
      have hout : (decide (a ≤ n) && decide (n < b)) = false := by simpa using hin
      simp [hout]

/-- The slots of a reply run from the first asked for to the lesser of the last and 7. -/
theorem liveRange_eq {first count : Nat} (h : count ≠ 0) :
    liveRange first count = (List.range (min 7 (first + count - 1) + 1 - first)).map fun n => first + n := by
  rw [liveRange, range_filter_between, show min 8 (first + count) = min 7 (first + count - 1) + 1 by omega]

theorem liveRange_contains {first count : Nat} (h : count ≠ 0) (n : Nat) :
    (liveRange first count).contains n = decide (first ≤ n ∧ n ≤ min 7 (first + count - 1)) := by
  rw [Bool.eq_iff_iff, List.contains_iff_mem, decide_eq_true_iff, liveRange, List.mem_filter, List.mem_range]
  simp only [Bool.and_eq_true, decide_eq_true_eq]
  omega

theorem readTwo (first count : Byte) :
    readFields readLiveFields [first, count] = [(first.toNat : Int), (count.toNat : Int)] := by
  simp [readLiveFields, readFields, Field.nat, ofBytes, natOfBytes]

theorem checkReadLive_good {first count : Byte} (hfirst : first.toNat ≤ 7) (hcount : count ≠ 0) :
    checkFields 0 readLiveFields (fun _ => none) twoValues [first, count] = .good ((first.toNat : Int), (count.toNat : Int)) := by
  obtain ⟨hlow, hhigh⟩ := fetch_range hcount
  have hseven : (first.toNat : Int) ≤ 7 := by omega
  simp only [checkFields, readTwo]
  simp [readLiveFields, firstBad, Field.nat, hlow, hhigh, hseven, twoValues]

theorem checkReadLive_badFirst {first count : Byte} (hfirst : 7 < first.toNat) :
    checkFields 0 readLiveFields (fun _ => none) twoValues [first, count] = .bad 0 := by
  refine (checkFields_eq_bad_iff ..).mpr (.inl ?_)
  rw [readTwo]
  simp [readLiveFields, firstBad, Field.nat]
  omega

theorem checkReadLive_badCount {first : Byte} (hfirst : first.toNat ≤ 7) :
    checkFields 0 readLiveFields (fun _ => none) twoValues [first, 0] = .bad 1 := by
  refine (checkFields_eq_bad_iff ..).mpr (.inl ?_)
  rw [readTwo]
  simp [readLiveFields, firstBad, Field.nat]
  omega

/-- Settles O58: READ_LIVE by the slots that it names, a fetch by what fits its reply. -/
theorem readsAndFetchesTakeWhatTheyAnswer : Obligations.ReadsAndFetchesTakeWhatTheyAnswer := by
  refine ⟨fun first count s h => ⟨fun hfirst hcount => ?_, fun hfirst => ?_, fun hfirst hcount => ?_⟩,
    fun most s h => ⟨?_, fun hmost => ?_, fun hmost => ?_⟩⟩
  · have hne : count.toNat ≠ 0 := fun hzero => hcount (BitVec.eq_of_toNat_eq hzero)
    intro last slots left
    have hslots : liveRange first.toNat count.toNat = slots := liveRange_eq hne
    have hhead : toBytes 1 (slots.headD 0 : Nat) = [first] := by
      obtain ⟨n, hn⟩ : ∃ n, last + 1 - first.toNat = n + 1 := ⟨last - first.toNat, by omega⟩
      have : slots.headD 0 = first.toNat := by
        change (((List.range (last + 1 - first.toNat)).map fun n => first.toNat + n).headD 0) = _
        rw [hn, List.range_succ_eq_map]
        rfl
      rw [this, ← u8, u8_eq, BitVec.ofNat_toNat, BitVec.setWidth_eq]
    have hlen : slots.length = last + 1 - first.toNat := by simp [slots]
    have hread : ∀ (n : Nat) (fresh : Bool), (fresh && !(slots.contains n)) = left n fresh := fun n fresh => by
      rw [← hslots, liveRange_contains hne]
    rw [exec, execReadLive, State.request_taken h _ (by rfl), checkReadLive_good hfirst hcount]
    change Host.Outcome.next (State.settle (State.accept 0x09 (readLiveBytes (liveRange first.toNat count.toNat) s.live)
      { s.discarded with live := s.live.clearFresh (liveRange first.toNat count.toNat) })) = _
    simp only [hslots, readLiveBytes, u8, hhead, Live.clearFresh, LiveTrack.clearIf, hread, hlen]
    rfl
  · rw [exec, execReadLive, State.request_taken h _ (by rfl), checkReadLive_badFirst hfirst]
    rfl
  · subst hcount
    rw [exec, execReadLive, State.request_taken h _ (by rfl), checkReadLive_badCount hfirst]
    rfl
  · rintro rfl
    exact ⟨exec_fetchSpans_bad h, exec_fetchEvents_bad h⟩
  · have hspec := takeFitting_spec SpanRec.size (min most.toNat 32) 1020 s.rep.spans.waiting
    obtain ⟨hsplit, hcount, hroom⟩ := hspec
    refine ⟨_, _, ?_, hcount, hroom, fun r hr => takeFitting_maximal SpanRec.size _ _ s.rep.spans.waiting r hr, ?_⟩
    · rw [List.append_assoc, hsplit]
      exact s.rep.spans.items_eq
    · have hleft : (SpanQueue.available { s.rep.spans with
          items := s.rep.spans.flying ++ (takeFitting SpanRec.size (min most.toNat 32) 1020 s.rep.spans.waiting).2 })
          = (takeFitting SpanRec.size (min most.toNat 32) 1020 s.rep.spans.waiting).2.length := by
        rw [SpanQueue.available_eq, SpanQueue.waiting_fetched _ hsplit]
      rw [exec_fetchSpans h hmost, ← hleft]
      rfl
  · obtain ⟨hsplit, hcount, hroom⟩ := takeFitting_spec Event.size (min most.toNat 64) 1021 s.rep.events.items
    refine ⟨_, _, hsplit.symm, hcount, hroom, fun e he => takeFitting_maximal Event.size _ _ s.rep.events.items e he, ?_⟩
    rw [exec_fetchEvents h hmost]
    rfl

/-! ### Attention and the fault requests (R157 to R159, R186, R188) -/

/-- R159: the pulse that an acknowledgement begins. -/
theorem Report.pulseAfter_pulse (now : Nat) (cfg : ReportingSet) (cleared : Bool) (r : Report) :
    r.pulseAfter now cfg cleared = { r with
      pulseDue := if r.pulseDue = none ∧ cleared = true ∧ (activeCauses cfg.spanMark r).anyEnabled cfg.mask = true
        then some (now + 100) else r.pulseDue } := by
  unfold Report.pulseAfter
  split
  · next h =>
    rw [Bool.and_eq_true, Bool.and_eq_true, Option.isNone_iff_eq_none, and_assoc] at h
    rw [if_pos h]
    rfl
  · next h =>
    rw [Bool.and_eq_true, Bool.and_eq_true, Option.isNone_iff_eq_none, and_assoc] at h
    rw [if_neg h]

/-- Settles O59: the acknowledgement by the causes that its mask names, the fault requests by the records. -/
theorem acknowledgementAndFaultRequests : Obligations.AcknowledgementAndFaultRequests := by
  intro s
  refine ⟨fun h mask => ⟨fun hmask => ?_, fun hmask => ?_⟩, fun hidle => ?_, fun due hdue => ?_, fun h hlen => ⟨?_, ?_⟩⟩
  · have hrange : within 0 31 mask.toNat := ⟨by omega, by omega⟩
    rw [exec, execAckAttention, State.request_taken h _ (by rfl), ackFields, checkByte_good hrange]
    change Host.Outcome.next (State.settle (s.discarded.acknowledge (Causes.ofMask mask.toNat))) = _
    rw [State.acknowledge, Report.pulseAfter_pulse]
    rfl
  · have hrange : ¬ within 0 31 mask.toNat := fun ⟨_, hhigh⟩ => by omega
    rw [exec, execAckAttention, State.request_taken h _ (by rfl), ackFields, checkByte_bad hrange]
    rfl
  · simp only [exec, execAttnPulseEnd, hidle]
    rfl
  · simp only [exec, execAttnPulseEnd, hdue]
    rfl
  · rw [exec, execReadFaults, State.request_taken h _ (by rfl)]
    refine congrArg (fun b => Host.Outcome.next (s.answered 0x8D (0 :: b)).settle) ?_
    change faultBytes s.rep.faults = _
    rw [faultBytes, FaultCode.all_zip hlen, List.map_map]
    rfl
  · rw [exec, execClearFaults, State.request_taken h _ (by rfl)]
    simp only [← classTotal_eq hlen]
    rfl

end Sys2Proof.Machine
end

section
/-! START_RUN and STOP_RUN (statements O29, O30). -/

namespace Sys2Proof.Machine

/-! ### Requests with one signed field -/

theorem readInt {w : Nat} {lo hi v : Int} (h : -((256 ^ w : Nat) : Int) ≤ 2 * v ∧ 2 * v < ((256 ^ w : Nat) : Int)) :
    readFields [.int w lo hi] (toBytes w v) = [v] := by
  have hread := readFields_writeFields [Field.int w lo hi] [v] ⟨h, trivial⟩
  simpa only [writeFields, Field.int, List.append_nil] using hread

theorem checkInt_good {w : Nat} {lo hi v : Int} (h : -((256 ^ w : Nat) : Int) ≤ 2 * v ∧ 2 * v < ((256 ^ w : Nat) : Int))
    (hrange : within lo hi v) :
    checkFields 0 [.int w lo hi] (fun _ => none) (fun vs => vs.headD 0) (toBytes w v) = .good v := by
  obtain ⟨hlow, hhigh⟩ := hrange
  simp only [checkFields, readInt h]
  simp [firstBad, Field.int, hlow, hhigh]

theorem checkInt_bad {w : Nat} {lo hi v : Int} (h : -((256 ^ w : Nat) : Int) ≤ 2 * v ∧ 2 * v < ((256 ^ w : Nat) : Int))
    (hrange : ¬ within lo hi v) :
    checkFields 0 [.int w lo hi] (fun _ => none) (fun vs => vs.headD 0) (toBytes w v) = .bad 0 := by
  refine (checkFields_eq_bad_iff ..).mpr (.inl ?_)
  rw [readInt h]
  simp only [firstBad, Field.int, Domain.holds_range]
  exact if_neg hrange

/-! ### START_RUN (R137, R138) -/

theorem ms_eq (n : Nat) : ms n = 4000 * n := by
  simp only [ms, us, tickPerUs]
  omega

theorem us_eq (n : Nat) : us n = 4 * n := rfl

theorem nextRunNumber_eq {n : Nat} (h : n ≤ 65535) : nextRunNumber n = if n = 65535 then 1 else n + 1 := by
  unfold nextRunNumber
  split <;> split <;> omega

/-- Settles O29: block by block. -/
theorem startRunStartsEveryBlock : Obligations.StartRunStartsEveryBlock := by
  intro s start h hrun hnumber hstart
  have hcarried : -((256 ^ 4 : Nat) : Int) ≤ 2 * start ∧ 2 * start < ((256 ^ 4 : Nat) : Int) := by
    obtain ⟨hlow, hhigh⟩ := hstart
    norm_num
    omega
  have hnext := nextRunNumber_eq hnumber
  refine ⟨?_, ?_⟩
  · have hgood := checkInt_good hcarried hstart
    rw [exec, execStartRun, State.request_taken h _ (by simp), State.discarded_run, if_pos hrun, startRunFields, hgood]
    change Host.Outcome.next (State.settle
      ((s.discarded.startRun start).accept 0x05 (u16 (s.discarded.startRun start).run.number))) = _
    simp only [State.startRun, Expo.startRun, ms_eq, State.changeRun, RunCause.madeByPart, Bool.or_false,
      State.discarded_run, hnext, hrun]
    rfl
  · have hbad : checkFields 0 startRunFields (fun _ => none) (fun vs => vs.headD 0) ([0x00, 0x00, 0x00, 0x80] : List Byte)
        = .bad 0 := by decide
    rw [exec, execStartRun, State.request_taken h _ (by rfl), State.discarded_run, if_pos hrun, hbad]
    rfl

/-! ### STOP_RUN (R139, R140) -/

/-- R37: the exposure controller after an exposure that ends at once. -/
def Expo.ended (e : Expo) : Expo :=
  let cut := e.state = .arming ∨ e.state = .window
  { e with
    state := if cut then .ready else e.state, burst := if cut then none else e.burst
    stuckDue := if cut then none else e.stuckDue, expSync := if cut then false else e.expSync
    lasDrv := if cut then false else e.lasDrv, ack := none }

theorem State.endExposure_eq (s : State) : s.endExposure = { s with expo := s.expo.ended } := by
  by_cases hcut : s.expo.state = .arming ∨ s.expo.state = .window
  · have hunfinished := (ExpoState.unfinished_iff _).mpr hcut
    simp [State.endExposure, Expo.ended, hunfinished, hcut]
  · have hfinished : ¬ s.expo.state.unfinished = true := mt (ExpoState.unfinished_iff _).mp hcut
    simp [State.endExposure, Expo.ended, hfinished, hcut]

theorem Groups.applyStaged_eq (g : Groups) :
    g.applyStaged = { g with
      exposure := g.stagedExposure.getD g.exposure, stagedExposure := none
      line := g.stagedLine.getD g.line, stagedLine := none } := by
  unfold Groups.applyStaged Groups.applyLine
  cases hline : g.stagedLine with
  | none => simp [hline]
  | some l => simp

/-- Everything that STOP_RUN does but its reply. -/
theorem State.stopRun_eq (s : State) :
    s.stopRun =
      State.clearMarks
        { s with
          run := { state := .stopped, number := s.run.number, cause := some .stopRun, causeFault := none }
          rep := Report.produce s.pos s.timeMs s.pos
                   (.runState s.run.state .stopped .stopRun s.run.number none s.closingNumber none)
                   (s.tearDownSpans .runEnd s.currentEnd).rep
          span := { SpanBuilder.initial with seq := s.closingNumber.getD s.span.seq }
          trk := { s.trk with tracks := Four.const .empty }, table := []
          live := { s.live with tracks := liveAfter s.trk.tracks (Four.const .empty) s.live.tracks }
          expo := s.expo.ended.stopTimers, cfg := s.cfg.applyStaged, mark := s.mark.toIdle } := by
  simp only [State.stopRun, State.endExposure_eq, State.tearDownSpans_eq, State.clearTracks, State.changeRun,
    RunCause.madeByPart, Bool.or_false]
  rfl

theorem Report.produce_runCause (r : Report) (pos : Int) (time : Word32) (at_ : Int) (b : EventBody) :
    (r.produce pos time at_ b).runCause = r.runCause := by
  unfold Report.produce
  dsimp only
  split <;> rfl

theorem Report.foldl_produce_runCause (pos : Int) (time : Word32) (at_ : Int) (bs : List EventBody) :
    ∀ r : Report, (bs.foldl (fun q b => q.produce pos time at_ b) r).runCause = r.runCause := by
  induction bs with
  | nil => exact fun _ => rfl
  | cons b bs ih => exact fun r => (ih _).trans (r.produce_runCause pos time at_ b)

theorem Report.storeSpan_runCause (r : Report) (pos : Int) (x : SpanRec) : (r.storeSpan pos x).runCause = r.runCause := by
  unfold Report.storeSpan
  dsimp only
  split <;> rfl

theorem stopFields_eq (n : Nat) (closed : Option Word32) :
    stopFields n closed = toBytes 2 n ++ [flagByte closed.isSome] ++ toBytes 4 (closed.getD 0).toNat := by
  rw [stopFields, maskByte_single]
  rfl

/-- At STOP_RUN the open span closes RUN_END, joined by a provisional one. -/
theorem State.closedReport_runEnd (s : State) :
    State.closedReport .runEnd s.currentEnd .none { s with span := s.span.foldBack } =
      s.span.opened.elim s.rep fun o =>
        s.rep.storeSpan s.pos
          ((s.span.provisional.elim o (mergeSpans o)).closed s.span.view .runEnd (max s.pos o.start) .none
            (s.span.seq + 1)) := by
  simp only [State.closedReport, SpanBuilder.foldBack_opened]
  cases hopen : s.span.opened with
  | none => rfl
  | some o => rw [State.currentEnd_of_open hopen]; rfl

theorem SpanRec.joinSummary_names (r : SpanRec) (y : Summary) :
    (r.joinSummary y).run = r.run ∧ (r.joinSummary y).start = r.start := by
  unfold SpanRec.joinSummary SpanRec.changeWire
  repeat' split
  all_goals exact ⟨rfl, rfl⟩

theorem SpanRec.foldl_joinSummary_names (ys : List Summary) :
    ∀ r : SpanRec, (ys.foldl SpanRec.joinSummary r).run = r.run ∧ (ys.foldl SpanRec.joinSummary r).start = r.start := by
  induction ys with
  | nil => exact fun _ => ⟨rfl, rfl⟩
  | cons y ys ih =>
    intro r
    obtain ⟨hrun, hstart⟩ := ih (r.joinSummary y)
    obtain ⟨hrun', hstart'⟩ := r.joinSummary_names y
    exact ⟨hrun.trans hrun', hstart.trans hstart'⟩

/-- Merging keeps what names the open span. -/
theorem mergeSpans_names (o p : SpanRec) : (mergeSpans o p).run = o.run ∧ (mergeSpans o p).start = o.start :=
  SpanRec.foldl_joinSummary_names p.summaries _

/-- What an answered STOP_RUN leaves of the link. -/
theorem State.answerStop_eq (closed : Option Word32) (s : State) :
    s.answerStop closed =
      { s with
        link := if s.expo.state = .ready then
            { s.link with slot := some (replyFrame 0x06 .accepted (stopFields s.run.number closed)) }
          else { s.link with handling := .heldForStop, stopClosed := closed } } := by
  unfold State.answerStop
  split <;> rfl

theorem Expo.ended_ready_iff (e : Expo) : e.ended.stopTimers.state = .ready ↔ e.state ≠ .blank := by
  simp only [Expo.stopTimers, Expo.ended]
  cases e.state <;> decide

/-- Settles O30: block by block, the reply by the exposure state. -/
theorem stopRunEndsEveryBlock : Obligations.StopRunEndsEveryBlock := by
  intro s h hrun
  have hexec : exec (.stopRun []) s = .next (s.discarded.stopRun.answerStop s.closingNumber).settle := by
    rw [exec, execStopRun, State.request_taken h _ (by rfl), State.discarded_run, if_neg hrun]
    rfl
  have hready := s.expo.ended_ready_iff
  rw [State.answerStop_eq, State.stopRun_eq, State.tearDownSpans_eq, State.closedReport_runEnd, closeAllEvents_eq,
    liveAfter_const_empty, Groups.applyStaged_eq] at hexec
  simp only [closeEvents_eq] at hexec
  refine ⟨_, hexec, rfl, rfl, rfl, rfl, rfl, rfl, rfl, fun hnone => ?none, fun o hopen => ?some, ?cause,
    fun hblank => ?answered, fun hblank => ?held, rfl, rfl, rfl, rfl, rfl, rfl, rfl, rfl⟩
  case none =>
    simp only [State.discarded, State.closingNumber, hnone]
    rfl
  case some =>
    refine ⟨(s.span.provisional.elim o (mergeSpans o)).closed s.span.view .runEnd (max s.pos o.start) .none
      (s.span.seq + 1), ?_, rfl, ?_, ?_, ?_, rfl, rfl⟩
    · simp only [State.discarded, State.closingNumber, hopen]
      rfl
    · cases s.span.provisional with
      | none => rfl
      | some p => exact (mergeSpans_names o p).1
    · cases s.span.provisional with
      | none => rfl
      | some p => exact (mergeSpans_names o p).2
    · change max s.pos o.start = _
      split <;> omega
  case cause =>
    refine (Report.produce_runCause _ _ _ _ _).trans ((Report.foldl_produce_runCause _ _ _ _ _).trans ?_)
    cases hopen : s.span.opened with
    | none => simp only [State.discarded, hopen]; rfl
    | some o =>
      simp only [State.discarded, hopen]
      exact Report.storeSpan_runCause _ _ _
  case answered =>
    have hsome : s.closingNumber.isSome = s.span.opened.isSome := Option.isSome_map
    refine (if_pos (hready.mpr hblank)).trans ?_
    rw [stopFields_eq, hsome]
    rfl
  case held => exact if_neg fun h => hready.mp h hblank

end Sys2Proof.Machine
end

section
/-! Attitude and temperature readings (statements O56, O57). -/

namespace Sys2Proof.Machine

/-! ### Raising a fault changes the report alone (R180 to R182) -/

/-- The report after an occurrence at a position, a time and with or without an open span. -/
def Report.raised (pos : Int) (time : Word32) (spanOpen : Bool) (c : FaultCode) (v : FaultValue) (r : Report) : Report :=
  match c.class with
  | .notice => r.count pos c v
  | .degrading => r.degrade pos time spanOpen c v
  | .halting => r.count pos c v

theorem State.raise_eq (c : FaultCode) (v : FaultValue) (s : State) :
    s.raise c v = { s with rep := s.rep.raised s.pos s.timeMs s.span.opened.isSome c v } := by
  unfold State.raise Report.raised
  cases c.class <;> rfl

/-! ### Arithmetic -/

theorem clamp_eq {lo hi : Int} (h : lo ≤ hi) (v : Int) : clamp lo hi v = max lo (min hi v) := by
  unfold clamp
  split
  · omega
  · split <;> omega

/-- Half of a difference, rounded half away from zero. -/
theorem roundDiv_two (n : Int) : roundDiv n 2 = if 0 ≤ n then (n + 1) / 2 else -((1 - n) / 2) := by
  have htwo : Int.natAbs 2 = 2 := rfl
  simp only [roundDiv, htwo]
  split <;> split <;> omega

/-- A product divided by one of its factors. -/
theorem roundDiv_mul_self {a : Int} (h : 0 < a) (b : Int) : roundDiv (a * b) a = b := by
  obtain ⟨n, rfl⟩ := Int.eq_ofNat_of_zero_le h.le
  have hn : 0 < n := by omega
  have hround : ∀ m : Nat, (2 * (n * m) + n) / (2 * n) = m := fun m => by
    rw [show 2 * (n * m) + n = n + 2 * n * m by ring, Nat.add_mul_div_left _ _ (by omega),
      Nat.div_eq_of_lt (by omega), Nat.zero_add]
  unfold roundDiv
  simp only [Int.natAbs_mul, Int.natAbs_natCast, hround]
  rcases Int.lt_or_le b 0 with hb | hb
  · have hneg : (n : Int) * b < 0 := by nlinarith
    rw [if_neg (by omega)]
    omega
  · have hpos : 0 ≤ (n : Int) * b := by nlinarith
    rw [if_pos (by omega)]
    omega

theorem fullScale_iff (forward reversed : Int) :
    (fullScale forward || fullScale reversed) = true ↔
      forward = -8388608 ∨ forward = 8388607 ∨ reversed = -8388608 ∨ reversed = 8388607 := by
  simp [fullScale, or_assoc]

theorem exec_adc_first {s : State} (h : s.att.first = none) (code : BitVec 24) :
    exec (.adcConversionDone code) s = .next ((s.advanceTo s.att.due).beginReversed code.toInt).settle := by
  rw [exec, execAdcConversionDone]
  simp only [show (s.advanceTo s.att.due).att.first = none from h]
  rfl

theorem exec_adc_second {s : State} {first : Int} (h : s.att.first = some first) (code : BitVec 24) :
    exec (.adcConversionDone code) s =
      .next ((s.advanceTo s.att.due).completeReading first code.toInt).beginReading.settle := by
  rw [exec, execAdcConversionDone]
  simp only [show (s.advanceTo s.att.due).att.first = some first from h]
  rfl

theorem conversionTime_eq (osr : Nat) : conversionTime osr = 16 * osr := by
  simp only [conversionTime, us, tickPerUs]
  omega

/-! ### Snapshots (R62 to R65) -/

theorem judgeSnapshot_complete (c : CalFields) (maxAge now : Nat) {a : Attitude} {vl vr lat : Reading}
    (hvl : a.vl.good = some vl) (hvr : a.vr.good = some vr) (hlat : a.lat.good = some lat) :
    judgeSnapshot c maxAge now a =
      { snapshot := if ageCaseOf maxAge (snapshotAge now vl vr lat) = .none then .zero
                    else snapshotOf c vl.value vr.value lat.value
        ageCase := ageCaseOf maxAge (snapshotAge now vl vr lat)
        ageMs := min 65535 (snapshotAge now vl vr lat / 1000) } := by
  simp only [judgeSnapshot, hvl, hvr, hlat]

theorem judgeSnapshot_missing (c : CalFields) (maxAge now : Nat) {a : Attitude}
    (h : a.vl.good = none ∨ a.vr.good = none ∨ a.lat.good = none) :
    judgeSnapshot c maxAge now a = { snapshot := .zero, ageCase := .none, ageMs := 65535 } := by
  unfold judgeSnapshot
  split
  · next hvl hvr hlat =>
    rcases h with h | h | h
    · cases h.symm.trans hvl
    · cases h.symm.trans hvr
    · cases h.symm.trans hlat
  · rfl

theorem ageCaseOf_eq_none_iff (maxAge age : Nat) :
    ageCaseOf maxAge age = .none ↔ ¬ (age ≤ 1000 * maxAge ∨ age ≤ 200000) := by
  unfold ageCaseOf
  split
  · simp_all
  · split <;> simp_all

/-- Settles O56: the end of a conversion by the phase of the reading, a snapshot by the age of its readings. -/
theorem attitudeReadingsComplete : Obligations.AttitudeReadingsComplete := by
  refine ⟨fun code s => ⟨fun hfirst => ?first, fun first hfirst hchannel => ⟨fun hinside => ?good, fun houtside => ?bad⟩⟩,
    fun c maxAge now a => ⟨fun vl vr lat hvl hvr hlat => ?complete, fun h => judgeSnapshot_missing c maxAge now h⟩⟩
  case first =>
    rw [exec_adc_first hfirst, State.beginReversed, conversionTime_eq]
    rfl
  case good =>
    have hnot : ¬ (fullScale first || fullScale code.toInt) = true := mt (fullScale_iff _ _).mp hinside
    rw [exec_adc_second hfirst, State.beginReading, conversionTime_eq]
    cases hch : s.att.channel with
    | temp => exact absurd hch hchannel
    | vl | vr | lat =>
      simp only [State.completeReading, State.advanceTo, hch, State.attitudeReading, if_neg hnot, chopped, roundDiv_two,
        State.touchLiveAttitude, Attitude.changeChannel, nextReading]
      rfl
  case bad =>
    have hfull : (fullScale first || fullScale code.toInt) = true := (fullScale_iff _ _).mpr houtside
    rw [exec_adc_second hfirst, State.beginReading, conversionTime_eq]
    cases hch : s.att.channel with
    | temp => exact absurd hch hchannel
    | vl | vr | lat =>
      simp only [State.completeReading, State.advanceTo, hch, State.attitudeReading, if_pos hfull, State.raise_eq,
        State.touchLiveAttitude, Attitude.changeChannel, nextReading]
      rfl
  case complete =>
    rw [judgeSnapshot_complete c maxAge now hvl hvr hlat]
    simp only [ageCaseOf_eq_none_iff, ite_not, snapshotOf, clamp_eq (show (-50000 : Int) ≤ 50000 by decide),
      clamp_eq (show (-100000 : Int) ≤ 100000 by decide)]
    rfl

end Sys2Proof.Machine
end

section
/-! TEMP readings and CAL_TEMPERATURE (statement O57). -/

namespace Sys2Proof.Machine

theorem chopped_eq (forward reversed : Int) :
    chopped forward reversed =
      if 0 ≤ forward - reversed then (forward - reversed + 1) / 2 else -((1 - (forward - reversed)) / 2) :=
  roundDiv_two _

/-- R69: a good reading gives the reference when it is the new calibration point itself. -/
theorem readingTemperature_point {reading : Int} (h : 1 ≤ reading) (c : CalFields) (reference : Int) :
    readingTemperature { c with codeRef := reading, tRef := reference + 27315 } reading = reference := by
  change roundDiv (reading * (reference + 27315)) reading - 27315 = reference
  rw [roundDiv_mul_self (by omega)]
  omega

theorem State.evaluateTemp_inside {s : State} {reading : Int}
    (h : within (-4000) 8500 (readingTemperature s.cal.work reading)) :
    s.evaluateTemp reading =
      { s with att := { s.att with
          temp := some reading, beam := some (readingTemperature s.cal.work reading), held := false } } := if_pos h

theorem State.evaluateTemp_outside {s : State} {reading : Int}
    (h : ¬ within (-4000) 8500 (readingTemperature s.cal.work reading)) :
    s.evaluateTemp reading =
      State.raise .tempRange { qualifier := 0, number := readingTemperature s.cal.work reading }
        { s with att := { s.att with temp := some reading, held := true } } := if_neg h

theorem exec_calTemperature {s : State} (h : s.takesRequests) (hrun : s.run.state = .stopped) {payload : List Byte}
    (hlen : payload.length = 2) :
    exec (.calTemperature payload) s =
      finish (match checkFields 0 calTemperatureFields (fun _ => none) (fun vs => vs.headD 0) payload with
        | .bad i => s.discarded.refuseValue 0x12 i
        | .good reference =>
          { s.discarded with
            att := { s.att with calTemp := some reference }
            link := { s.discarded.link with handling := .heldForTemperature } }) := by
  rw [exec, execCalTemperature, State.request_taken h _ (by exact decide_eq_true hlen), State.discarded_run, if_pos hrun]
  rfl

theorem strainOf_eq (c : CalFields) (t : Int) :
    strainOf c t = max (-2000) (min 2000 (roundDiv (c.alpha * (t - c.t0)) 100)) := clamp_eq (by decide) _

/-- A busy transmitter keeps the reply in its slot. -/
theorem State.settle_link_busy {s : State} (h : s.link.tx ≠ none) : s.settle.link = s.link := by
  have harb := State.arbitrate_of_quiet (.inl h)
  rw [State.settle, harb]
  rfl

theorem State.arbitrate_handling (s : State) : s.arbitrate.link.handling = s.link.handling := by
  unfold State.arbitrate State.offerReports
  repeat' split
  all_goals rfl

/-- Settling keeps the attitude, the calibration and the request handling. -/
theorem State.settle_att_cal_handling (s : State) :
    s.settle.att = s.att ∧ s.settle.cal = s.cal ∧ s.settle.link.handling = s.link.handling := by
  have hhandling : s.settle.link.handling = s.link.handling := State.arbitrate_handling s
  obtain ⟨link, items, flying, harb⟩ := State.arbitrate_changes s
  refine ⟨?_, ?_, hhandling⟩
  all_goals
    rw [State.settle, harb]
    rfl

/-- The end of a TEMP reading. -/
theorem exec_adc_temp {s : State} {first : Int} (h : s.att.first = some first) (hch : s.att.channel = .temp)
    (code : BitVec 24) :
    exec (.adcConversionDone code) s =
      .next ((s.advanceTo s.att.due).tempReading first code.toInt).beginReading.settle := by
  rw [exec_adc_second h]
  simp only [State.completeReading, show (s.advanceTo s.att.due).att.channel = .temp from hch]

/-- With no CAL_TEMPERATURE pending a TEMP reading is evaluated or discarded. -/
theorem State.tempReading_plain {s : State} (h : s.att.calTemp = none) (forward reversed : Int) :
    s.tempReading forward reversed =
      State.touchLiveTemp (if fullScale forward || fullScale reversed then s.discardTemp
        else s.evaluateTemp (chopped forward reversed)) := by
  simp only [State.tempReading, h]
  cases fullScale forward || fullScale reversed <;> rfl

/-- A good reading that settles a pending CAL_TEMPERATURE (R69). -/
theorem State.tempReading_point {s : State} {reference : Int} (h : s.att.calTemp = some reference) {forward reversed : Int}
    (hfull : (fullScale forward || fullScale reversed) = false) (hreading : 1 ≤ chopped forward reversed) :
    s.tempReading forward reversed =
      State.touchLiveTemp (State.endCalTemperature (replyFrame 0x12 .accepted (i32 (chopped forward reversed)))
        ((s.setTemperaturePoint (chopped forward reversed) reference).evaluateTemp (chopped forward reversed))) := by
  simp only [State.tempReading, h, hfull, hreading]
  rfl

/-- A reading that fails a pending CAL_TEMPERATURE (R69). -/
theorem State.tempReading_refused {s : State} {reference : Int} (h : s.att.calTemp = some reference)
    {forward reversed : Int} (hfails : (fullScale forward || fullScale reversed) = true ∨ chopped forward reversed < 1) :
    s.tempReading forward reversed =
      State.touchLiveTemp (State.endCalTemperature (badValue 0x12 0)
        (if fullScale forward || fullScale reversed then s.discardTemp
         else s.evaluateTemp (chopped forward reversed))) := by
  have hnot : ¬ ((!(fullScale forward || fullScale reversed)) && decide (1 ≤ chopped forward reversed)) = true := by
    rw [Bool.and_eq_true, decide_eq_true_eq]
    rintro ⟨hgood, hreading⟩
    rcases hfails with hfull | hlow
    · simp [hfull] at hgood
    · omega
  simp only [State.tempReading, h, if_neg hnot]
  cases fullScale forward || fullScale reversed <;> rfl

theorem State.evaluateTemp_keeps (s : State) (reading : Int) :
    (s.evaluateTemp reading).cal = s.cal ∧ (s.evaluateTemp reading).link = s.link := by
  unfold State.evaluateTemp
  dsimp only
  split
  · exact ⟨rfl, rfl⟩
  · rw [State.raise_eq]; exact ⟨rfl, rfl⟩

theorem State.discardTemp_keeps (s : State) : s.discardTemp.cal = s.cal ∧ s.discardTemp.link = s.link := by
  rw [State.discardTemp, State.raise_eq]; exact ⟨rfl, rfl⟩

/-- Settles O57: the request by its range, the reading by its codes, its value and a pending request. -/
theorem temperatureReadingsComplete : Obligations.TemperatureReadingsComplete := by
  intro s
  refine ⟨fun h hrun reference hrange => ?held, fun h hrun reference hcarried hrange => ?refused,
    fun code first hfirst hch => ?_⟩
  case held =>
    have hcarry : -((256 ^ 2 : Nat) : Int) ≤ 2 * reference ∧ 2 * reference < ((256 ^ 2 : Nat) : Int) := by
      obtain ⟨hlow, hhigh⟩ := hrange
      norm_num
      omega
    rw [exec_calTemperature h hrun (toBytes_length 2 reference), calTemperatureFields, checkInt_good hcarry hrange]
    rfl
  case refused =>
    have hcarry : -((256 ^ 2 : Nat) : Int) ≤ 2 * reference ∧ 2 * reference < ((256 ^ 2 : Nat) : Int) := by
      obtain ⟨hlow, hhigh⟩ := hcarried
      norm_num
      omega
    rw [exec_calTemperature h hrun (toBytes_length 2 reference), calTemperatureFields, checkInt_bad hcarry hrange]
    rfl
  have hexec := exec_adc_temp hfirst hch code
  dsimp only
  rw [← fullScale_iff, ← chopped_eq]
  refine ⟨fun hnone hgood hrange => ?inside, fun hnone hgood hrange => ?outside, fun hnone hfull => ?discarded,
    fun reference hsome hreference hgood hreading => ?point, fun reference hsome hfails => ?fails⟩
  case inside =>
    rw [hexec, State.tempReading_plain (s := s.advanceTo s.att.due) hnone, if_neg hgood,
      State.evaluateTemp_inside (s := s.advanceTo s.att.due) hrange, State.beginReading, conversionTime_eq]
    simp only [nextReading, State.touchLiveTemp, State.strain, strainOf_eq, State.advanceTo, hch]
    rfl
  case outside =>
    rw [hexec, State.tempReading_plain (s := s.advanceTo s.att.due) hnone, if_neg hgood,
      State.evaluateTemp_outside (s := s.advanceTo s.att.due) hrange, State.beginReading, conversionTime_eq]
    simp only [State.raise_eq, nextReading, State.touchLiveTemp, State.strain, strainOf_eq, State.advanceTo, hch]
    rfl
  case discarded =>
    rw [hexec, State.tempReading_plain (s := s.advanceTo s.att.due) hnone, if_pos hfull, State.discardTemp,
      State.beginReading, conversionTime_eq]
    simp only [State.raise_eq, nextReading, State.touchLiveTemp, State.strain, strainOf_eq, State.advanceTo, hch]
    rfl
  case point =>
    have hpoint := readingTemperature_point hreading s.cal.work reference
    have hrange : within (-4000) 8500 (readingTemperature
        (State.setTemperaturePoint (chopped first code.toInt) reference (s.advanceTo s.att.due)).cal.work
        (chopped first code.toInt)) := by
      rw [← hpoint] at hreference
      exact hreference
    rw [hexec, State.tempReading_point (s := s.advanceTo s.att.due) hsome (Bool.eq_false_iff.mpr hgood) hreading,
      State.evaluateTemp_inside hrange, State.beginReading, conversionTime_eq]
    simp only [State.setTemperaturePoint, State.endCalTemperature, State.reply, nextReading, State.touchLiveTemp,
      State.strain, strainOf_eq, State.advanceTo, hch, hpoint]
    rfl
  case fails =>
    refine ⟨_, hexec, ?_⟩
    rw [State.tempReading_refused (s := s.advanceTo s.att.due) hsome hfails]
    generalize hread : (if fullScale first || fullScale code.toInt then (s.advanceTo s.att.due).discardTemp
      else (s.advanceTo s.att.due).evaluateTemp (chopped first code.toInt)) = read
    have hkept : read.cal = s.cal ∧ read.link = s.link := by
      rw [← hread]
      split
      · exact State.discardTemp_keeps _
      · exact State.evaluateTemp_keeps _ _
    obtain ⟨hcal, hlink⟩ := hkept
    obtain ⟨hatt', hcal', hhandling'⟩ := State.settle_att_cal_handling
      (State.touchLiveTemp (read.endCalTemperature (badValue 0x12 0))).beginReading
    refine ⟨congrArg Attitude.calTemp hatt', hcal'.trans hcal, hhandling', fun hbusy => ?_⟩
    rw [State.settle_link_busy]
    · rfl
    · exact fun hidle => hbusy ((congrArg Link.tx hlink).symm.trans hidle)

end Sys2Proof.Machine
end

section
/-! Triggers: what a skip does, what taking a trigger does, and EXPOSE_ONCE (statements O34, O35). -/

namespace Sys2Proof.Machine

/-! ### Skips -/

/-- R117, R120: whether a position belongs to the provisional span. -/
def SpanBuilder.beyondCandidate (pos : Int) (b : SpanBuilder) : Bool :=
  b.candidate.elim false fun c => decide (c.position ≤ pos)

/-- The record that a position selects is changed, the provisional one or the open one. -/
theorem SpanBuilder.changeTarget_target (pos : Int) (f : SpanRec → SpanRec) (b : SpanBuilder) :
    b.changeTarget (b.target pos) f =
      if b.beyondCandidate pos then { b with provisional := b.provisional.map f }
      else { b with opened := b.opened.map f } := by
  obtain ⟨opened, provisional, candidate⟩ := b
  unfold SpanBuilder.target SpanBuilder.beyondCandidate
  have hrest : ∀ b : SpanBuilder, b.changeTarget (if b.opened.isSome then .opened else .none) f =
      { b with opened := b.opened.map f } := by
    intro b
    cases ho : b.opened <;> simp [SpanBuilder.changeTarget, ho]
    rw [← ho]
  cases candidate with
  | none => exact hrest _
  | some c =>
    by_cases h : c.position ≤ pos
    · simp [h, SpanBuilder.changeTarget]
    · simp only [h, if_false, Option.elim_some, decide_false, Bool.false_eq_true]
      exact hrest { opened := opened, provisional := provisional, candidate := some c, .. }

/-- A skip of a reason is one skip with the reason's fault. -/
theorem State.skip_eq_skippedOnce {s : State} {r : SkipReason} {c : FaultCode} {v : FaultValue}
    (h : ∀ t : State, t = { s with expo := { s.expo with skipped := countSkip s.expo.skipped } } →
      t.raiseSkip r = t.raise c v) :
    s.skip r = s.skippedOnce c v := by
  rw [State.skip, h _ rfl, State.skipInSpan, SpanBuilder.changeTarget_target, State.skippedOnce]
  simp only [State.raise_eq, SpanBuilder.beyondCandidate]
  cases s.span.candidate with
  | none => rfl
  | some c =>
    simp only [Option.elim_some]
    rfl

/-! ### A trigger -/

theorem State.trigger_of_skip {s : State} {r : SkipReason} (h : s.triggerSkip = some r) : s.trigger = s.skip r := by
  rw [State.trigger, h]

theorem State.trigger_of_taken {s : State} (h : s.triggerSkip = none) : s.trigger = s.takeTrigger := by
  rw [State.trigger, h]

/-- R27: the exposure state is checked first. -/
theorem State.triggerSkip_busy {s : State} (h : s.expo.state ≠ .ready) : s.triggerSkip = some .busy := if_pos h

/-- R28: the ARM frames are checked second. -/
theorem State.triggerSkip_armLeaving {s : State} (hready : s.expo.state = .ready)
    (h : s.heads.a.arm ≠ none ∨ s.heads.b.arm ≠ none) : s.triggerSkip = some .armLeaving := by
  have hleaving : s.armLeaving = true := by
    rw [State.armLeaving, Bool.or_eq_true, Option.isSome_iff_ne_none, Option.isSome_iff_ne_none]
    exact h
  rw [State.triggerSkip, if_neg (not_not_intro hready), if_pos hleaving]

/-- R28: with both links free the pin and the table decide. -/
theorem State.triggerSkip_of_free {s : State} (hready : s.expo.state = .ready) (ha : s.heads.a.arm = none)
    (hb : s.heads.b.arm = none) :
    s.triggerSkip = if !s.pins.rsvRdy then some .reservoir else if 4 ≤ s.table.length then some .full else none := by
  have hfree : ¬ s.armLeaving = true := by simp [State.armLeaving, ha, hb]
  rw [State.triggerSkip, if_neg (not_not_intro hready), if_neg hfree]
  rfl

theorem State.skip_busy (s : State) : s.skip .busy = s.skippedOnce .triggerOverrun { qualifier := 0, number := 0 } :=
  State.skip_eq_skippedOnce fun _ _ => rfl

theorem State.skip_armLeaving (s : State) :
    s.skip .armLeaving = s.skippedOnce .triggerOverrun { qualifier := 1, number := 0 } :=
  State.skip_eq_skippedOnce fun _ _ => rfl

theorem State.skip_gridPassed (s : State) :
    s.skip .gridPassed = s.skippedOnce .triggerOverrun { qualifier := 2, number := 0 } :=
  State.skip_eq_skippedOnce fun _ _ => rfl

theorem State.skip_reservoir (s : State) :
    s.skip .reservoir =
      s.skippedOnce .reservoirLow { qualifier := 0, number := min 4294967295 (s.expo.skipped + 1) } :=
  State.skip_eq_skippedOnce fun t ht => by
    rw [ht, State.raiseSkip, countSkip, satAdd]
    push_cast
    rfl

theorem State.skip_full {s : State} {e : Entry} {es : List Entry} (h : s.table = e :: es) :
    s.skip .full = s.skippedOnce .assemblyFull { qualifier := 0, number := e.exposure.toNat } :=
  State.skip_eq_skippedOnce fun t ht => by
    have htable : t.table = e :: es := by rw [ht]; exact h
    rw [State.raiseSkip, htable]
    rfl

/-- R27, R39: a trigger taken, field by field. -/
theorem State.takeTrigger_eq (s : State) :
    s.takeTrigger =
      { s with
        cfg := { s.cfg with exposure := s.cfg.stagedExposure.getD s.cfg.exposure, stagedExposure := none }
        heads := ⟨{ s.heads.a with arm := some { tag := tagOf (s.expo.counter + 1), due := s.clock + armFrameTime } },
                  { s.heads.b with arm := some { tag := tagOf (s.expo.counter + 1), due := s.clock + armFrameTime } }⟩
        table := s.table ++ [newEntry (s.cfg.stagedExposure.getD s.cfg.exposure) s.cfg.odometry.reversed
                               ⟨s.heads.a.live, s.heads.b.live⟩ (s.expo.counter + 1)]
        expo := { s.expo with
                  state := .arming, counter := s.expo.counter + 1, guardDue := none
                  chgEn := !(s.cfg.stagedExposure.getD s.cfg.exposure).quiet
                  gridBase := gridBaseFor s.cfg.exposure (s.cfg.stagedExposure.getD s.cfg.exposure) s.odo.furthest
                                s.expo.gridBase
                  periodDue := periodDueFor s.cfg.exposure (s.cfg.stagedExposure.getD s.cfg.exposure) s.clock
                                 s.expo.periodDue }
        live := { s.live with
                  expo := { s.live.expo with
                            counter := s.expo.counter + 1, skipped := s.expo.skipped, rsvRdy := s.pins.rsvRdy
                            fresh := true } } } := by
  cases h : s.cfg.stagedExposure with
  | some set => simp only [State.takeTrigger, State.applyStagedExposure, h]; rfl
  | none =>
    have hbase : gridBaseFor s.cfg.exposure s.cfg.exposure s.odo.furthest s.expo.gridBase = s.expo.gridBase :=
      if_neg fun ⟨hnew, hold⟩ => hold hnew
    have hperiod : periodDueFor s.cfg.exposure s.cfg.exposure s.clock s.expo.periodDue = s.expo.periodDue :=
      if_neg fun ⟨hnew, hold⟩ => hold.elim (· hnew) (· rfl)
    simp only [State.takeTrigger, State.applyStagedExposure, h, Option.getD_none, hbase, hperiod]
    rw [← h]
    rfl

/-- Settles O34: skip by skip in the order of the checks, and the trigger taken. -/
theorem triggersAreTakenOrSkipped : Obligations.TriggersAreTakenOrSkipped := by
  intro s
  dsimp only
  refine ⟨fun hbusy => ?busy, fun hready hleaving => ?leaving, fun hready ha hb => ⟨fun hlow => ?reservoir,
    fun e es hrsv htable hfull => ?full, fun hrsv hroom => ?taken⟩⟩
  case busy => rw [State.trigger_of_skip (State.triggerSkip_busy hbusy), State.skip_busy]
  case leaving => rw [State.trigger_of_skip (State.triggerSkip_armLeaving hready hleaving), State.skip_armLeaving]
  all_goals have hchecks := State.triggerSkip_of_free hready ha hb
  case reservoir =>
    rw [State.trigger_of_skip (r := .reservoir) (by rw [hchecks, hlow]; rfl), State.skip_reservoir]
  case full =>
    rw [State.trigger_of_skip (r := .full) (by rw [hchecks, hrsv, if_pos hfull]; rfl), State.skip_full htable]
  case taken =>
    rw [State.trigger_of_taken (by rw [hchecks, hrsv, if_neg (Nat.not_le.mpr hroom)]; rfl), State.takeTrigger_eq, hrsv]
    simp only [periodDueFor, ms_eq]
    rfl

/-! ### EXPOSE_ONCE -/

theorem exec_exposeOnce {s : State} (h : s.takesRequests) (hacting : s.run.state = .armed ∨ s.run.state = .measuring)
    (hmode : s.cfg.exposure.mode = .single) (ready : Bool) :
    exec (.exposeOnce [] ready) s =
      .next (State.settle
        ((s.seeRsv ready).discarded.trigger.accept 0x07 (exposeFields (s.seeRsv ready).discarded))) := by
  have hproduces : (s.seeRsv ready).discarded.produces .single = true := by
    rw [State.produces, Bool.and_eq_true]
    exact ⟨(RunState.acting_eq_true_iff _).mpr hacting, decide_eq_true hmode⟩
  rw [exec, execExposeOnce, State.request_taken (s := s.seeRsv ready) h _ (by rfl), if_pos hproduces]
  rfl

/-- R26: the result fields of a trigger that is skipped. -/
theorem exposeFields_skipped {s : State} {r : SkipReason} (h : s.triggerSkip = some r) :
    exposeFields s = [BitVec.ofNat 8 (exposeOutcome (some r)), 0, 0, 0, 0, 0] := by
  have hzero : w32 0 = [0, 0, 0, 0] := by decide
  rw [exposeFields, h, u8_eq, maskByte_single, Option.isNone_some, if_neg Bool.false_ne_true, hzero]
  rfl

/-- A skipped EXPOSE_ONCE is one skip, answered. -/
theorem exec_exposeOnce_skipped {s : State} (h : s.takesRequests)
    (hacting : s.run.state = .armed ∨ s.run.state = .measuring) (hmode : s.cfg.exposure.mode = .single) (ready : Bool)
    {r : SkipReason} {c : FaultCode} {v : FaultValue} (hskip : (s.seeRsv ready).discarded.triggerSkip = some r)
    (hfault : (s.seeRsv ready).discarded.skip r = (s.seeRsv ready).discarded.skippedOnce c v) :
    exec (.exposeOnce [] ready) s =
      .next (State.settle
        (State.answered 0x87 [0, BitVec.ofNat 8 (exposeOutcome (some r)), 0, 0, 0, 0, 0]
          (State.skippedOnce c v { s with pins := { s.pins with rsvRdy := ready } }))) := by
  rw [exec_exposeOnce h hacting hmode, State.trigger_of_skip hskip, hfault, exposeFields_skipped hskip]
  simp only [State.skippedOnce, State.raise_eq]
  rfl

/-- Settles O35: the trigger taken, and the skips in the order of the checks. -/
theorem exposeOnceTakesOrSkipsATrigger : Obligations.ExposeOnceTakesOrSkipsATrigger := by
  refine ⟨fun s h hacting hmode hready ha hb hroom => ?taken, fun s ready h hacting hmode => ⟨fun hbusy => ?busy,
    fun hready hleaving => ?leaving, fun hready ha hb => ⟨fun hlow => ?reservoir, fun e es hrsv htable hfull => ?full⟩⟩⟩
  case taken =>
    have hskip : (s.seeRsv true).discarded.triggerSkip = none :=
      (State.triggerSkip_of_free (s := (s.seeRsv true).discarded) hready ha hb).trans (if_neg (Nat.not_le.mpr hroom))
    rw [exec_exposeOnce h hacting hmode, State.trigger_of_taken hskip, State.takeTrigger_eq, exposeFields, hskip]
    have hcfg : (s.seeRsv true).discarded.cfg = s.cfg := rfl
    simp only [hcfg, gridBaseFor, periodDueFor, ms_eq, hmode, ne_eq, reduceCtorEq, not_false_eq_true, true_or, and_true,
      u8_eq, maskByte_single]
    rfl
  case busy => exact exec_exposeOnce_skipped h hacting hmode ready (State.triggerSkip_busy hbusy) (State.skip_busy _)
  case leaving =>
    exact exec_exposeOnce_skipped h hacting hmode ready (State.triggerSkip_armLeaving hready hleaving) (State.skip_armLeaving _)
  all_goals have hchecks := State.triggerSkip_of_free (s := (s.seeRsv ready).discarded) hready ha hb
  case reservoir =>
    subst hlow
    exact exec_exposeOnce_skipped h hacting hmode _ hchecks (State.skip_reservoir _)
  case full =>
    subst hrsv
    exact exec_exposeOnce_skipped h hacting hmode _ (hchecks.trans (if_pos hfull)) (State.skip_full htable)

end Sys2Proof.Machine
end

section
/-! The window of an exposure, its checks, blank-out and charging, and the trigger inputs (statements O36 to O39). -/

namespace Sys2Proof.Machine

/-! ### The end of an ARM frame (R30) -/

theorem exec_armFrameSent_idle {s : State} {h : Head} (harm : (s.heads.get h).arm = none) :
    exec (.armFrameSent h) s = .next s.settle := by
  rw [exec, execArmFrameSent, harm]
  rfl

theorem exec_armFrameSent_of {s : State} {h : Head} {f : ArmFrame} (harm : (s.heads.get h).arm = some f) :
    exec (.armFrameSent h) s = .next ((s.advanceTo f.due).armSent h).settle := by
  rw [exec, execArmFrameSent, harm]
  rfl

/-- R27: after the end of one ARM frame a link still sends one exactly when another head's does. -/
theorem State.armLeaving_after_sent (h : Head) (s : State) :
    (s.changeHead h fun l => { l with arm := none }).armLeaving = true ↔
      ∃ g : Head, g ≠ h ∧ (s.heads.get g).arm ≠ none := by
  simp only [State.armLeaving, State.changeHead, Bool.or_eq_true, Option.isSome_iff_ne_none]
  cases h with
  | a =>
    constructor
    · rintro (hnone | hother)
      · exact absurd rfl hnone
      · exact ⟨.b, by decide, hother⟩
    · rintro ⟨g, hne, harm⟩
      cases g with
      | a => exact absurd rfl hne
      | b => exact .inr harm
  | b =>
    constructor
    · rintro (hother | hnone)
      · exact ⟨.a, by decide, hother⟩
      · exact absurd rfl hnone
    · rintro ⟨g, hne, harm⟩
      cases g with
      | a => exact .inl harm
      | b => exact absurd rfl hne

/-- R64: ATT_STALE is raised unless the snapshot is fresh. -/
theorem State.raiseStale_eq (j : Judged) (s : State) :
    s.raiseStale j = if j.ageCase = .fresh then s else s.raise .attStale { qualifier := 0, number := j.ageMs } := by
  rw [State.raiseStale]
  cases j.ageCase <;> rfl

/-- Settles O36: by the other link, the waiting soft reset, the exposure state and the snapshot's age. -/
theorem lastArmFrameOpensTheWindow : Obligations.LastArmFrameOpensTheWindow := by
  intro h s
  refine ⟨exec_armFrameSent_idle, fun f harm => ?_⟩
  have hothers := State.armLeaving_after_sent h (s.advanceTo f.due)
  dsimp only
  rw [exec_armFrameSent_of harm]
  refine ⟨fun hleaving => ?_, fun hlast hreset hstate => ?_, fun hlast hreset hstate hfresh => ?_,
    fun hlast hreset hstate hstale => ?_⟩
  · rw [State.armSent, if_pos (hothers.mpr hleaving)]
    rfl
  all_goals rw [State.armSent, if_neg (mt hothers.mp hlast), if_neg (by exact Bool.eq_false_iff.mp hreset)]
  · rw [if_neg (by exact hstate)]
    rfl
  all_goals rw [if_pos (by exact hstate), State.openWindow, State.raiseStale_eq]
  · rw [if_pos (by exact hfresh), Expo.openWindow, us_eq]
    rfl
  · rw [if_neg (by exact hstale), Expo.openWindow, us_eq]
    rfl

/-! ### The window's end (R31 to R33) -/

theorem changeEntry_changeEntry {x : Word32} {f g : Entry → Entry} (hf : ∀ e, (f e).exposure = e.exposure)
    (table : List Entry) : changeEntry x g (changeEntry x f table) = changeEntry x (fun e => g (f e)) table := by
  rw [changeEntry, changeEntry, changeEntry, List.map_map]
  refine List.map_congr_left fun e _ => ?_
  by_cases he : e.exposure = x <;> simp [he, hf]

/-- R31, R32, R35, R36: a window's end, field by field. -/
theorem State.closeWindow_eq (s : State) :
    s.closeWindow =
      { s with
        table := changeEntry s.expo.counter (fun e => { e with windowEnd := some s.clock }) s.table
        expo := { s.expo with
                  state := if s.cfg.exposure.blankOut = 0 then .ready else .blank
                  blankDue := if s.cfg.exposure.blankOut = 0 then none
                              else some (s.clock + 40 * s.cfg.exposure.blankOut)
                  expSync := false, lasDrv := false, burst := none, stuckDue := none
                  ack := s.expo.ack.map fun a => { a with due := some (s.clock + 20) }
                  guardDue := if s.cfg.exposure.quiet then
                      (if s.cfg.exposure.chargeGuard = 0 then none
                       else some (s.clock + 4 * s.cfg.exposure.chargeGuard)) else s.expo.guardDue
                  chgEn := if s.cfg.exposure.quiet ∧ s.cfg.exposure.chargeGuard = 0 then true else s.expo.chgEn } } := by
  have hblank : blankOutTime s.cfg.exposure = 40 * s.cfg.exposure.blankOut := by
    rw [blankOutTime, us_eq]
    omega
  rw [State.closeWindow, State.startGuard, Expo.closeWindow, hblank, us_eq, us_eq]
  by_cases hquiet : s.cfg.exposure.quiet = true
  · by_cases hzero : s.cfg.exposure.chargeGuard = 0 <;> simp [hquiet, hzero]
  · simp [hquiet]

theorem exec_burstPulseTimer_of {s : State} {b : Burst} (h : s.expo.burst = some b) :
    exec .burstPulseTimer s =
      .next (State.settle (if b.on then (s.advanceTo b.due).pulseOff b
        else if b.left ≤ 1 then (s.advanceTo b.due).closeWindow else (s.advanceTo b.due).pulseOn b)) := by
  rw [exec, execBurstPulseTimer, h]
  rfl

/-- Settles O37: the burst by its pulse and what is left, and the stuck timer. -/
theorem burstAndStuckTimerEndTheWindow : Obligations.BurstAndStuckTimerEndTheWindow := by
  intro s
  refine ⟨fun hnone => ?noBurst, fun b hb => ⟨fun hon => ?off, fun hoff hleft => ?next, fun hoff hleft => ?last⟩,
    fun hnone => ?notStuck, fun due hdue => ?stuck⟩
  case noBurst =>
    rw [exec, execBurstPulseTimer, hnone]
    rfl
  case off =>
    rw [exec_burstPulseTimer_of hb, if_pos hon]
    rfl
  case next =>
    rw [exec_burstPulseTimer_of hb, if_neg (Bool.eq_false_iff.mp hoff), if_neg (by omega)]
    rfl
  case last =>
    rw [exec_burstPulseTimer_of hb, if_neg (Bool.eq_false_iff.mp hoff), if_pos hleft, State.closeWindow_eq]
    rfl
  case notStuck =>
    rw [exec, execStuckTimerExpiry, hnone]
    rfl
  case stuck =>
    rw [exec, execStuckTimerExpiry, hdue]
    simp only [finish, State.markStuck, State.closeWindow_eq]
    rw [changeEntry_changeEntry]
    · rfl
    · exact fun _ => rfl

/-! ### Acknowledges, blank-out and guard (R32 to R36) -/

theorem exec_ackCountDecision_of {s : State} {a : AckCount} {due : Nat} (ha : s.expo.ack = some a)
    (hdue : a.due = some due) :
    exec .ackCountDecision s = .next ((s.advanceTo due).decideAck a).settle := by
  rw [exec, execAckCountDecision, ha]
  simp only [hdue]
  rfl

theorem exec_blankOutEnd_of {s : State} {due : Nat} (h : s.expo.blankDue = some due) :
    exec .blankOutEnd s =
      .next (State.settle (State.releaseStop
        { s.advanceTo due with expo := { s.expo with state := .ready, blankDue := none } })) := by
  rw [exec, execBlankOutEnd, h]
  rfl

/-- Settles O38: each input and timer, running or not. -/
theorem acknowledgesBlankOutAndGuard : Obligations.AcknowledgesBlankOutAndGuard := by
  refine ⟨fun s => ⟨?change, fun hnone => ?undecided, fun a due ha hdue => ⟨fun heq => ?right, fun hne => ?short⟩⟩,
    fun s => ⟨fun hnone => ?noBlank, fun due hdue => ⟨fun hstop => ?ready, fun hstop => ?released⟩,
      fun hnone => ?noGuard, fun due hdue => ?charge⟩⟩
  case change =>
    rw [exec, execLasAckChange]
    cases s.pins.lasAck <;> rfl
  case undecided =>
    rw [exec, execAckCountDecision]
    rcases hnone with hnone | ⟨a, ha, hdue⟩
    · rw [hnone]
      rfl
    · rw [ha]
      simp only [hdue]
      rfl
  case right =>
    rw [exec_ackCountDecision_of ha hdue, State.decideAck, if_pos heq]
    rfl
  case short =>
    rw [exec_ackCountDecision_of ha hdue, State.decideAck, if_neg hne]
    rfl
  case noBlank =>
    rw [exec, execBlankOutEnd, hnone]
    rfl
  case ready =>
    rw [exec_blankOutEnd_of hdue, State.releaseStop, if_neg (by exact hstop)]
    rfl
  case released =>
    rw [exec_blankOutEnd_of hdue, State.releaseStop, if_pos (by exact hstop), stopFields_eq]
    rfl
  case noGuard =>
    rw [exec, execChargeGuardExpiry, hnone]
    rfl
  case charge =>
    rw [exec, execChargeGuardExpiry, hdue]
    rfl

/-! ### TRIG_IN and the period timer (R24, R25) -/

theorem State.produces_iff (m : TrigMode) (s : State) :
    s.produces m = true ↔ (s.run.state = .armed ∨ s.run.state = .measuring) ∧ s.cfg.exposure.mode = m := by
  rw [State.produces, Bool.and_eq_true, decide_eq_true_eq, RunState.acting_eq_true_iff]

theorem Filter.falls_iff (level : Bool) (f : Filter) :
    f.falls level = true ↔ f.accepted = some true ∧ level = false := by
  rw [Filter.falls, Bool.and_eq_true, decide_eq_true_eq, Bool.not_eq_true']

/-- R24: TRIG_IN's filter has accepted a level. -/
def State.acceptTrigIn (ready : Bool) (due : Nat) (s : State) : State :=
  { (s.seeRsv ready).advanceTo due with
    expo := { s.expo with trigFilter := { accepted := some s.pins.trigIn, due := none } } }

theorem exec_trigInFilterExpiry_of {s : State} {due : Nat} (h : s.expo.trigFilter.due = some due) (ready : Bool) :
    exec (.trigInFilterExpiry ready) s =
      .next (State.settle (if s.expo.trigFilter.falls s.pins.trigIn && s.produces .external
        then (s.acceptTrigIn ready due).trigger else s.acceptTrigIn ready due)) := by
  rw [exec, execTrigInFilterExpiry]
  simp only [State.seeRsv_expo, h]
  rfl

/-- R25: the period timer has run on. -/
def State.runPeriod (ready : Bool) (due : Nat) (s : State) : State :=
  { (s.seeRsv ready).advanceTo due with
    expo := { s.expo with periodDue := some (max s.clock due + 4000 * s.cfg.exposure.period) } }

theorem exec_periodTimerExpiry_of {s : State} {due : Nat} (h : s.expo.periodDue = some due) (ready : Bool) :
    exec (.periodTimerExpiry ready) s =
      .next (State.settle (if s.produces .timed then (s.runPeriod ready due).trigger else s.runPeriod ready due)) := by
  rw [exec, execPeriodTimerExpiry]
  simp only [State.seeRsv_expo, h, ms_eq]
  rfl

/-- Settles O39: the input's change, its filter and the period timer. -/
theorem triggerInputsTrigger : Obligations.TriggerInputsTrigger := by
  intro s ready
  have hfalls : (s.expo.trigFilter.falls s.pins.trigIn && s.produces .external) = true ↔
      (s.expo.trigFilter.accepted = some true ∧ s.pins.trigIn = false)
        ∧ (s.run.state = .armed ∨ s.run.state = .measuring) ∧ s.cfg.exposure.mode = .external := by
    rw [Bool.and_eq_true, Filter.falls_iff, State.produces_iff]
  refine ⟨rfl, fun hnone => ?noFilter, fun due hdue => ⟨fun hfall => ?trigger, fun hquiet => ?accepted⟩,
    fun hnone => ?noPeriod, fun due hdue => ⟨fun hacting => ?timed, fun hquiet => ?runsOn⟩⟩
  case noFilter =>
    rw [exec, execTrigInFilterExpiry]
    simp only [State.seeRsv_expo, hnone]
    rfl
  case trigger =>
    rw [exec_trigInFilterExpiry_of hdue, if_pos (hfalls.mpr hfall)]
    rfl
  case accepted =>
    rw [exec_trigInFilterExpiry_of hdue, if_neg (mt hfalls.mp hquiet)]
    rfl
  case noPeriod =>
    rw [exec, execPeriodTimerExpiry]
    simp only [State.seeRsv_expo, hnone]
    rfl
  case timed =>
    rw [exec_periodTimerExpiry_of hdue, if_pos ((State.produces_iff _ _).mpr hacting)]
    rfl
  case runsOn =>
    rw [exec_periodTimerExpiry_of hdue, if_neg (mt (State.produces_iff _ _).mp hquiet)]
    rfl

end Sys2Proof.Machine
end

section
/-! The odometer: phase errors, the decay timer and the speed gate, edges and the grid, pause and resumption (statements
O31 to O33). -/

namespace Sys2Proof.Machine

/-! ### Settling and the entry into FAULTED -/

/-- Settling changes the link, the event queue, the flight mark and ATTN_N alone. -/
theorem State.settle_changes (s : State) :
    ∃ (link : Link) (items : List Event) (flying attn : Bool),
      s.settle = { s with
                   link := link
                   rep := { s.rep with
                            events := { s.rep.events with items := items }
                            spans := { s.rep.spans with inFlight := flying }
                            attn := attn } } := by
  obtain ⟨link, items, flying, harb⟩ := State.arbitrate_changes s
  refine ⟨link, items, flying, s.settle.rep.attn, ?_⟩
  rw [State.settle, harb]
  rfl

theorem Report.produce_faultCause (r : Report) (pos : Int) (time : Word32) (at_ : Int) (body : EventBody) :
    (r.produce pos time at_ body).faultCause = r.faultCause := by
  rcases Nat.lt_or_ge r.events.items.length 64 with hroom | hfull
  · rw [Report.produce_of_room hroom]
  · rw [Report.produce_of_full hfull]
    rfl

theorem Report.foldl_produce_faultCause (pos : Int) (time : Word32) (at_ : Int) (bodies : List EventBody) (r : Report) :
    (bodies.foldl (fun q b => q.produce pos time at_ b) r).faultCause = r.faultCause := by
  induction bodies generalizing r with
  | nil => rfl
  | cons b bs ih => rw [List.foldl_cons, ih, Report.produce_faultCause]

theorem State.closedReport_faultCause (reason : CloseReason) (stop : Int) (source : Source) (s : State) :
    (s.closedReport reason stop source).faultCause = s.rep.faultCause := by
  unfold State.closedReport
  cases s.span.opened with
  | none => rfl
  | some r =>
    simp only [Option.elim_some, Report.storeSpan]
    split <;> rfl

theorem State.enterFaulted_faultCause (c : FaultCode) (s : State) :
    (s.enterFaulted c).rep.faultCause = s.rep.faultCause := by
  rw [State.enterFaulted_eq]
  refine (Report.produce_faultCause _ _ _ _ _).trans ?_
  rw [State.tearDownSpans_eq]
  exact (Report.foldl_produce_faultCause _ _ _ _ _).trans (State.closedReport_faultCause _ _ _ _)

theorem Report.halt_faultCause (r : Report) (pos : Int) (time : Word32) (c : FaultCode) (v : FaultValue) :
    (r.halt pos time c v).faultCause = true := Report.produce_faultCause _ _ _ _ _

/-- R144, R184: what a halting fault of a running run leaves when its command has ended. -/
theorem State.settle_raiseHalting {s : State} (h : s.run.state.running = true) (c : FaultCode) (v : FaultValue) :
    let t := (s.raiseHalting c v).settle
    t.run = { state := .faulted, number := s.run.number, cause := some .haltingFault, causeFault := some c }
      ∧ t.odo = s.odo ∧ t.heads = s.heads ∧ t.table = [] ∧ t.trk = { s.trk with tracks := Four.const .empty }
      ∧ t.span.opened = none ∧ t.span.candidate = none ∧ t.rep.faultCause = true ∧ t.rep.runCause = true
      ∧ t.expo = s.expo.faulted s.clock s.cfg.exposure := by
  intro t
  obtain ⟨link, items, flying, attn, ht⟩ : ∃ link items flying attn, t = _ := State.settle_changes (s.raiseHalting c v)
  have hfault : (s.raiseHalting c v).rep.faultCause = true := by
    rw [State.raiseHalting_of_running h, State.enterFaulted_faultCause]
    exact Report.halt_faultCause _ _ _ _ _
  rw [ht]
  refine ⟨?_, ?_, ?_, ?_, ?_, ?_, ?_, hfault, ?_, ?_⟩
  all_goals rw [State.raiseHalting_of_running h, State.enterFaulted_eq]
  all_goals rfl

/-- R36, R37: a window or its ARM frames are cut short, and the fault counts as window end for the charge guard. -/
theorem Expo.faulted_of_cut {e : Expo} (h : e.state = .arming ∨ e.state = .window) (now : Nat) (set : ExposureSet) :
    e.faulted now set =
      { e with
        state := .ready, burst := none, stuckDue := none, ack := none, expSync := false, lasDrv := false
        guardDue := if set.quiet then (if set.chargeGuard = 0 then none else some (now + 4 * set.chargeGuard))
                    else e.guardDue
        chgEn := e.chgEn || (set.quiet && decide (set.chargeGuard = 0)) } := by
  cases hquiet : set.quiet <;> simp [Expo.faulted, h, hquiet]

theorem Expo.faulted_of_uncut {e : Expo} (harming : e.state ≠ .arming) (hwindow : e.state ≠ .window) (now : Nat)
    (set : ExposureSet) : e.faulted now set = { e with ack := none } := by
  simp [Expo.faulted, harming, hwindow]

/-! ### Phase errors, decay and speed (R44, R45) -/

/-- R44: the part of a phase error that does not halt the run. -/
def State.notePhase (s : State) : State :=
  State.raise .odoPhase { qualifier := 0, number := (min 16 (s.odo.phaseLevel + 1) : Nat) }
    { s with
      pins := { s.pins with encA := !s.pins.encA, encB := !s.pins.encB }
      odo := { s.odo with phaseLevel := min 16 (s.odo.phaseLevel + 1) } }

theorem State.notePhase_run (s : State) : s.notePhase.run = s.run := rfl

theorem State.notePhase_odo (s : State) :
    s.notePhase.odo = { s.odo with phaseLevel := min 16 (s.odo.phaseLevel + 1) } := rfl

theorem State.phaseError_eq (s : State) :
    s.phaseError =
      if s.odo.phaseLevel = 15 then s.notePhase.raiseHalting .odoLost { qualifier := 0, number := 16 }
      else s.notePhase := by
  have hlast : s.odo.phaseLevel + 1 = phaseLimit ↔ s.odo.phaseLevel = 15 := by rw [phaseLimit]; omega
  rw [State.phaseError]
  by_cases h : s.odo.phaseLevel = 15
  · rw [if_pos (hlast.mpr h), if_pos h]; rfl
  · rw [if_neg (mt hlast.mp h), if_neg h]; rfl

/-- R45: nm per 100 ms as mm/s, rounded half away from zero. -/
theorem roundDiv_gate (n : Int) :
    roundDiv n 100000 = if 0 ≤ n then (2 * n + 100000) / 200000 else -((-2 * n + 100000) / 200000) := by
  have hdivisor : Int.natAbs 100000 = 100000 := rfl
  simp only [roundDiv, hdivisor]
  split <;> split <;> omega

/-- Settles O33: the phase error by the level and the run state, the decay timer and the speed gate. -/
theorem phaseErrorsAndOdometerTimers : Obligations.PhaseErrorsAndOdometerTimers := by
  refine ⟨fun s => ⟨fun hlevel => ?noted, fun hlevel hrun => ?counted, fun hlevel => ?lost,
    fun hlevel hstopped hfaulted => ?halts⟩, fun s => ⟨?decay, fun oldest rest hhistory => ?gate⟩⟩
  case noted =>
    rw [exec, execEncoderPhaseError, State.phaseError_eq]
    rw [if_neg hlevel]
    rfl
  case counted =>
    have hidle : s.notePhase.run.state.running = false := (RunState.running_eq_false_iff _).mpr hrun
    rw [exec, execEncoderPhaseError, State.phaseError_eq, if_pos hlevel, State.raiseHalting_of_not_running hidle]
    rfl
  case lost =>
    rw [exec, execEncoderPhaseError, State.phaseError_eq, if_pos hlevel]
    rfl
  case halts =>
    have hrunning : s.notePhase.run.state.running = true :=
      (RunState.running_eq_true_iff _).mpr (by cases h : s.run.state <;> simp_all [State.notePhase_run])
    rw [exec, execEncoderPhaseError, State.phaseError_eq, if_pos hlevel]
    obtain ⟨hrun, hodo, -, htable, htrk, hopened, hcandidate, hfault, hcause, hexpo⟩ :=
      State.settle_raiseHalting hrunning .odoLost { qualifier := 0, number := 16 }
    refine ⟨_, rfl, hrun, ?_, htable, htrk, hopened, hcandidate, hfault, hcause, fun harming hwindow => ?_, fun hcut => ?_⟩
    · rw [hodo, State.notePhase_odo, hlevel]
      rfl
    · rw [hexpo, Expo.faulted_of_uncut (e := s.notePhase.expo) harming hwindow]
      rfl
    · rw [hexpo, Expo.faulted_of_cut (e := s.notePhase.expo) hcut]
      rfl
  case decay =>
    rw [exec, execPhaseDecayTimer, ms_eq]
    rfl
  case gate =>
    rw [exec, execSpeedGate]
    simp only [Odo.gate, speedOf, directionOf, State.advanceTo_odo, hhistory, ms_eq, roundDiv_gate,
      clamp_eq (show (-100000 : Int) ≤ 100000 by decide)]
    rfl

/-! ### A valid edge and the grid (R22, R23, R41 to R43) -/

/-- R41, R42: the line and the accumulator after a valid edge. -/
def State.moveEncoder (line : EncoderLine) (s : State) : State :=
  { s.toggleEncoder line with
    odo := { s.odo with acc := stepAccumulator s.cfg.odometry (isUpStep line s.pins.encA s.pins.encB) s.odo.acc } }

theorem exec_encoderValidEdge (line : EncoderLine) (ready : Bool) (s : State) :
    exec (.encoderValidEdge line ready) s =
      .next (State.settle
        (if ((s.seeRsv ready).moveEncoder line).pos = s.pos then (s.seeRsv ready).moveEncoder line
         else ((s.seeRsv ready).moveEncoder line).positionChanged s.pos)) := rfl

/-- In STOPPED a change of position reaches no block. -/
theorem State.positionChanged_of_stopped {s : State} (h : s.run.state = .stopped) (old : Int) :
    s.positionChanged old = s := by
  have hgrid : ¬ (s.produces .distance && decide (old < s.pos)) = true := by
    simp [State.produces, h, RunState.acting]
  rw [State.positionChanged, State.checkTravel, if_pos h, State.advanceGrid, if_neg hgrid, State.checkChannels, if_pos h,
    State.checkSpanMaximum, h]

/-- The travel checks change the furthest position and the back-travel mark of the odometer alone. -/
theorem State.checkTravel_odo (s : State) :
    ∃ (furthest : Int) (back : Bool),
      s.checkTravel.odo = { s.odo with furthest := furthest, backTravel := back } := by
  unfold State.checkTravel
  dsimp only
  repeat' split
  · exact ⟨_, _, rfl⟩
  · simp only [State.resumeRun_frame]
    exact ⟨_, _, rfl⟩
  · exact ⟨_, _, rfl⟩
  · simp only [State.pauseRun_frame]
    exact ⟨_, _, rfl⟩
  · exact ⟨_, _, rfl⟩

theorem State.positionChanged_odo (old : Int) (s : State) : (s.positionChanged old).odo = s.checkTravel.odo := by
  simp [State.positionChanged]

theorem skipTimes_gridPassed (k : Nat) (s : State) :
    s.skipTimes .gridPassed k =
      Nat.iterate (State.skippedOnce .triggerOverrun { qualifier := 2, number := 0 }) k s := by
  induction k generalizing s with
  | zero => rfl
  | succ k ih => rw [State.skipTimes, ih, State.skip_gridPassed, Function.iterate_succ_apply]

theorem gridPoints_of_lt {base pos : Int} {pitch : Nat} (h : pos < base + pitch) : gridPoints base pitch pos = 0 :=
  if_neg (by omega)

/-- R23: the points passed are those up to the highest one reached. -/
theorem gridPoints_eq {base pos : Int} {pitch k : Nat} (hlow : base + (k + 1) * pitch ≤ pos)
    (hhigh : pos < base + (k + 2) * pitch) : gridPoints base pitch pos = k + 1 := by
  have hnext : ((k : Int) + 2) * pitch = (k + 1) * pitch + pitch := by ring
  have hpitch : (0 : Int) < pitch := by omega
  have hfirst : base + (pitch : Int) ≤ pos := by
    have hk : (0 : Int) ≤ (k : Int) * pitch := by positivity
    have hsplit : ((k : Int) + 1) * pitch = k * pitch + pitch := by ring
    omega
  have hquot : (pos - base) / (pitch : Int) = k + 1 := by
    apply le_antisymm
    · exact Int.lt_add_one_iff.mp (Int.ediv_lt_of_lt_mul hpitch (by rw [add_assoc]; norm_num; omega))
    · exact Int.le_ediv_of_mul_le hpitch (by omega)
  rw [gridPoints, if_pos hfirst, hquot]
  omega

theorem State.rises_iff (old : Int) (s : State) :
    (s.produces .distance && decide (old < s.pos)) = true ↔
      (s.run.state = .armed ∨ s.run.state = .measuring) ∧ s.cfg.exposure.mode = .distance ∧ old < s.pos := by
  rw [Bool.and_eq_true, State.produces_iff, decide_eq_true_eq, and_assoc]

/-- Settles O31: the edge by whether the position changes, the grid by how many points it passes. -/
theorem encoderEdgesMoveTheAccumulator : Obligations.EncoderEdgesMoveTheAccumulator := by
  refine ⟨fun line ready s => ?edge, fun old s => ⟨fun hstays => ?stays, fun k hrises hlow hhigh => ?passes⟩⟩
  case edge =>
    intro up forward moved t
    have ht : (s.seeRsv ready).moveEncoder line = t := by
      have hacc : stepAccumulator s.cfg.odometry (isUpStep line s.pins.encA s.pins.encB) s.odo.acc
          = max (-9223372036854775808) (min 9223372036854775807 moved) := by
        rw [stepAccumulator, clampAccumulator, clamp_eq (by decide)]
        cases line <;> rfl
      rw [State.moveEncoder, State.seeRsv_cfg, State.seeRsv_odo]
      change { (s.seeRsv ready).toggleEncoder line with odo := { s.odo with
        acc := stepAccumulator s.cfg.odometry (isUpStep line s.pins.encA s.pins.encB) s.odo.acc } } = t
      rw [hacc]
      cases line <;> rfl
    rw [exec_encoderValidEdge, ht]
    refine ⟨fun hquiet => ?_, fun hmoved => ?_, ?_⟩
    · by_cases hpos : t.pos = s.pos
      · rw [if_pos hpos]
      · have hstopped : t.run.state = .stopped := hquiet.resolve_left hpos
        rw [if_neg hpos, State.positionChanged_of_stopped hstopped]
    · rw [if_neg hmoved]
      rfl
    · refine ⟨_, rfl, ?_⟩
      obtain ⟨furthest, back, hodo⟩ := t.checkTravel_odo
      by_cases hpos : t.pos = s.pos
      · simp only [if_pos hpos, State.settle_frame, true_and]
        exact ⟨rfl, rfl, rfl, rfl, rfl, rfl, rfl⟩
      · simp only [if_neg hpos, State.settle_frame, State.positionChanged_odo, hodo, State.positionChanged_frame,
          true_and]
        exact ⟨rfl, rfl, rfl, rfl, rfl, rfl, rfl⟩
  case stays =>
    rw [State.advanceGrid]
    split
    · next hrises =>
      have hbelow : ¬ s.expo.gridBase + (s.cfg.exposure.pitch : Int) ≤ s.pos := fun h =>
        hstays ⟨(s.rises_iff old).mp hrises, h⟩
      rw [gridPoints_of_lt (not_le.mp hbelow)]
    · rfl
  case passes =>
    rw [State.advanceGrid, if_pos ((s.rises_iff old).mpr hrises), gridPoints_eq hlow hhigh]
    simp only [skipTimes_gridPassed]
    push_cast
    rfl

end Sys2Proof.Machine
end

section
/-! Pause and resumption at a change of position (statement O32). -/

namespace Sys2Proof.Machine

/-! ### The travel checks (R46, R47, R142, R143) -/

theorem Odo.reach_eq (pos : Int) (o : Odo) : o.reach pos = { o with furthest := max o.furthest pos } := by
  have hmax : (if o.furthest < pos then pos else o.furthest) = max o.furthest pos := by split <;> omega
  rw [Odo.reach, hmax]

/-- The odometer with the furthest position of R46 and a back-travel mark. -/
def State.travelled (back : Bool) (s : State) : State :=
  { s with odo := { s.odo with furthest := max s.odo.furthest s.pos, backTravel := back } }

theorem State.checkTravel_eq {s : State} (h : s.run.state ≠ .stopped) :
    s.checkTravel =
      if s.odo.backTravel then
        if max s.odo.furthest s.pos ≤ s.pos then (s.travelled false).resumeRun else s.travelled true
      else if s.pos < max s.odo.furthest s.pos - (s.cfg.odometry.reverseDistance : Int) then
        (s.travelled true).pauseRun (max s.odo.furthest s.pos)
      else s.travelled false := by
  rw [State.checkTravel, if_neg h, Odo.reach_eq]
  dsimp only
  cases s.odo.backTravel <;> rfl

/-- R142: the pause of a running run, field by field. -/
theorem State.pauseRun_eq {s : State} (h : s.run.state.acting = true) (furthest : Int) :
    s.pauseRun furthest =
      { s with
        run := { state := .paused, number := s.run.number, cause := some .reverse, causeFault := none }
        rep := { Report.produce s.pos s.timeMs s.pos
                   (.runState s.run.state .paused .reverse s.run.number none s.closingNumber (some furthest))
                   (s.tearDownSpans .reverse furthest).rep with
                 runCause := true }
        span := { SpanBuilder.initial with seq := s.closingNumber.getD s.span.seq }
        trk := { s.trk with tracks := Four.const .empty }
        live := { s.live with tracks := liveAfter s.trk.tracks (Four.const .empty) s.live.tracks } } := by
  rw [State.pauseRun, if_pos h]
  simp only [State.tearDownSpans_eq, State.clearTracks, State.changeRun, RunCause.madeByPart, Bool.or_true]
  rfl

theorem State.pauseRun_of_not_acting {s : State} (h : s.run.state.acting = false) (furthest : Int) :
    s.pauseRun furthest = s := if_neg (Bool.eq_false_iff.mp h)

theorem State.resumeRun_eq {s : State} (h : s.run.state = .paused) :
    s.resumeRun =
      { s with
        run := { state := .armed, number := s.run.number, cause := some .forwardResumed, causeFault := none }
        rep := { Report.produce s.pos s.timeMs s.pos
                   (.runState .paused .armed .forwardResumed s.run.number none none (some s.odo.furthest)) s.rep with
                 runCause := true } } := by
  rw [State.resumeRun, if_pos h]
  simp only [State.changeRun, RunCause.madeByPart, Bool.or_true, h]
  rfl

/-- At a pause the open span closes REVERSE at the furthest position, joined by a provisional one. -/
theorem State.closedReport_foldBack (reason : CloseReason) (stop : Int) (s : State) :
    State.closedReport reason stop .none { s with span := s.span.foldBack } =
      s.span.opened.elim s.rep fun o =>
        s.rep.storeSpan s.pos
          ((s.span.provisional.elim o (mergeSpans o)).closed s.span.view reason stop .none (s.span.seq + 1)) := by
  simp only [State.closedReport, SpanBuilder.foldBack_opened]
  cases s.span.opened <;> rfl

/-! ### The checks, case by case -/

theorem State.checkTravel_pauses {s : State} (hacting : s.run.state = .armed ∨ s.run.state = .measuring)
    (hforward : s.odo.backTravel = false)
    (hback : s.pos < max s.odo.furthest s.pos - (s.cfg.odometry.reverseDistance : Int)) :
    s.checkTravel = (s.travelled true).pauseRun (max s.odo.furthest s.pos) := by
  have hne : s.run.state ≠ .stopped := RunState.ne_stopped_of_acting ((RunState.acting_eq_true_iff _).mpr hacting)
  rw [State.checkTravel_eq hne, hforward, if_neg Bool.false_ne_true, if_pos hback]

theorem State.checkTravel_notes {s : State} (hrun : s.run.state = .paused ∨ s.run.state = .faulted)
    (hforward : s.odo.backTravel = false)
    (hback : s.pos < max s.odo.furthest s.pos - (s.cfg.odometry.reverseDistance : Int)) :
    s.checkTravel = s.travelled true := by
  have hne : s.run.state ≠ .stopped := by rcases hrun with h | h <;> rw [h] <;> decide
  have hquiet : (s.travelled true).run.state.acting = false := by
    change s.run.state.acting = false
    rcases hrun with h | h <;> rw [h] <;> rfl
  rw [State.checkTravel_eq hne, hforward, if_neg Bool.false_ne_true, if_pos hback, State.pauseRun_of_not_acting hquiet]

theorem State.checkTravel_returns {s : State} (hne : s.run.state ≠ .stopped) (hback : s.odo.backTravel = true)
    (hreached : s.odo.furthest ≤ s.pos) : s.checkTravel = (s.travelled false).resumeRun := by
  rw [State.checkTravel_eq hne, hback, if_pos rfl, if_pos (by omega)]

/-! ### Where the run is quiet, the channels at a change of position mark and report alone (R51, R53 to R57) -/

/-- Only the markers and the report have changed, and of the report neither the span queue nor the RUN_STATE cause. -/
structure State.MarksOnly (s t : State) : Prop where
  changed : ∃ (mark : Markers) (rep : Report), t = { s with mark := mark, rep := rep }
  spans : t.rep.spans = s.rep.spans
  cause : t.rep.runCause = s.rep.runCause

theorem State.MarksOnly.refl (s : State) : s.MarksOnly s := ⟨⟨_, _, rfl⟩, rfl, rfl⟩

theorem State.MarksOnly.trans {s t u : State} (h : s.MarksOnly t) (h' : t.MarksOnly u) : s.MarksOnly u := by
  obtain ⟨⟨mark, rep, rfl⟩, hspans, hcause⟩ := h
  obtain ⟨⟨mark', rep', rfl⟩, hspans', hcause'⟩ := h'
  exact ⟨⟨_, _, rfl⟩, hspans'.trans hspans, hcause'.trans hcause⟩

theorem State.MarksOnly.run {s t : State} (h : s.MarksOnly t) : t.run = s.run := by
  obtain ⟨⟨mark, rep, rfl⟩, -, -⟩ := h
  rfl

theorem State.MarksOnly.span {s t : State} (h : s.MarksOnly t) : t.span = s.span := by
  obtain ⟨⟨mark, rep, rfl⟩, -, -⟩ := h
  rfl

theorem State.MarksOnly.emit (body : EventBody) (s : State) : s.MarksOnly (s.emit body) :=
  ⟨⟨_, _, rfl⟩, Report.produce_spans _ _ _ _ _, Report.produce_runCause _ _ _ _ _⟩

theorem State.MarksOnly.ofMark (mark : Markers) (s : State) : s.MarksOnly { s with mark := mark } := ⟨⟨_, _, rfl⟩, rfl, rfl⟩

/-- The run state or the Span Builder leaves a qualification nothing to do. -/
def State.ignoresQualification (s : State) : Prop := s.run.state.acting = false ∨ s.span.candidate = none

theorem State.MarksOnly.ignores {s t : State} (h : s.MarksOnly t) (hs : s.ignoresQualification) :
    t.ignoresQualification := by
  rw [State.ignoresQualification, h.run, h.span]
  exact hs

theorem State.candidateQualified_of_ignored {s : State} (h : s.ignoresQualification) (source : Source) :
    s.candidateQualified source = s := by
  unfold State.candidateQualified
  rcases h with hrun | hnone
  · cases hstate : s.run.state <;> simp_all [RunState.acting]
  · rw [hnone]
    cases s.run.state <;> rfl

/-- A member's qualification reports a qualification or nothing. -/
theorem Markers.mastQualifies_report (set : MastSetting) (m : Marker) (ms : Markers) :
    (ms.mastQualifies set m).report = none ∨ ∃ source, (ms.mastQualifies set m).report = some (.qualified source) := by
  have hqualify : ∀ source (mast : Mast),
      (mast.qualifyAs source).report = none ∨ ∃ source', (mast.qualifyAs source).report = some (.qualified source') := by
    intro source mast
    unfold Mast.qualifyAs
    split
    · exact .inr ⟨source, rfl⟩
    · exact .inl rfl
  cases set with
  | mk1 | mk2 | either => exact hqualify _ _
  | both =>
    simp only [Markers.mastQualifies]
    split
    · exact hqualify _ _
    · exact .inl rfl

theorem State.MarksOnly.moveMast_qualifies {s : State} (h : s.ignoresQualification) (set : MastSetting) (m : Marker) :
    s.MarksOnly (s.moveMast (s.mark.mastQualifies set m)) := by
  rw [State.moveMast]
  rcases Markers.mastQualifies_report set m s.mark with hnone | ⟨source, hsome⟩
  · rw [hnone]
    exact .ofMark _ s
  · rw [hsome, State.takeMastReport]
    have hmark := State.MarksOnly.ofMark { s.mark with mast := (s.mark.mastQualifies set m).mast } s
    rw [State.candidateQualified_of_ignored (hmark.ignores h)]
    exact hmark

theorem State.MarksOnly.setZone (zone : Bool) (s : State) : s.MarksOnly (s.setZone zone) := by
  unfold State.setZone
  split
  · exact .refl s
  · exact (State.MarksOnly.ofMark _ s).trans (.emit _ _)

theorem State.MarksOnly.handQualification {s : State} (h : s.ignoresQualification) (m : Marker) :
    s.MarksOnly (s.handQualification m) := by
  cases m with
  | n0 | n1 =>
    simp only [State.handQualification]
    split
    · exact .moveMast_qualifies h _ _
    · exact .refl s
  | n2 =>
    simp only [State.handQualification, State.zoneQualified]
    cases s.cfg.markers.overlap with
    | off => exact .refl s
    | level | toggle => exact .setZone _ s
  | n3 =>
    simp only [State.handQualification, State.siteQualified]
    split
    · exact .emit _ s
    · exact .refl s

theorem State.MarksOnly.checkChannel {s : State} (h : s.ignoresQualification) (m : Marker) :
    s.MarksOnly (s.checkChannel m) := by
  rw [State.checkChannel]
  split
  · have hchannel : s.MarksOnly (s.changeChannel m fun c => { c with state := .qualified }) := .ofMark _ s
    exact hchannel.trans (.handQualification (hchannel.ignores h) m)
  · exact .refl s

theorem State.MarksOnly.checkChannels {s : State} (h : s.ignoresQualification) : s.MarksOnly s.checkChannels := by
  have hfold : ∀ (ms : List Marker) (t : State), s.MarksOnly t → s.MarksOnly (ms.foldl State.checkChannel t) := by
    intro ms
    induction ms with
    | nil => exact fun t ht => ht
    | cons m ms ih => exact fun t ht => ih _ (ht.trans (.checkChannel (ht.ignores h) m))
  unfold State.checkChannels
  split
  · exact .refl s
  · exact hfold _ _ (.refl s)

theorem State.checkSpanMaximum_of_not_measuring {s : State} (h : s.run.state ≠ .measuring) : s.checkSpanMaximum = s := by
  unfold State.checkSpanMaximum
  split
  · next hrun _ => exact absurd hrun h
  · rfl

/-! ### Triggers keep the candidate and the RUN_STATE cause -/

theorem Report.raised_runCause (r : Report) (pos : Int) (time : Word32) (spanOpen : Bool) (c : FaultCode)
    (v : FaultValue) : (r.raised pos time spanOpen c v).runCause = r.runCause := by
  unfold Report.raised
  cases c.class with
  | notice | halting => rfl
  | degrading =>
    simp only [Report.degrade]
    split
    · rfl
    · exact Report.produce_runCause _ _ _ _ _

/-- The candidate and the RUN_STATE cause are the same in both states. -/
structure State.SameCandidate (s t : State) : Prop where
  candidate : t.span.candidate = s.span.candidate
  cause : t.rep.runCause = s.rep.runCause

theorem State.SameCandidate.trans {s t u : State} (h : s.SameCandidate t) (h' : t.SameCandidate u) :
    s.SameCandidate u := ⟨h'.candidate.trans h.candidate, h'.cause.trans h.cause⟩

theorem SpanBuilder.changeTarget_candidate (tgt : Target) (f : SpanRec → SpanRec) (b : SpanBuilder) :
    (b.changeTarget tgt f).candidate = b.candidate := by cases tgt <;> rfl

theorem State.raiseSkip_eq (r : SkipReason) (s : State) : ∃ c v, s.raiseSkip r = s.raise c v := by
  cases r with
  | busy | armLeaving | gridPassed => exact ⟨.triggerOverrun, _, rfl⟩
  | reservoir => exact ⟨.reservoirLow, _, rfl⟩
  | full => exact ⟨.assemblyFull, _, rfl⟩

theorem State.SameCandidate.skip (r : SkipReason) (s : State) : s.SameCandidate (s.skip r) := by
  obtain ⟨c, v, hraise⟩ := State.raiseSkip_eq r { s with expo := { s.expo with skipped := countSkip s.expo.skipped } }
  rw [State.skip, hraise, State.raise_eq]
  exact ⟨SpanBuilder.changeTarget_candidate _ _ _, Report.raised_runCause _ _ _ _ _ _⟩

theorem State.SameCandidate.skipTimes (r : SkipReason) (n : Nat) (s : State) : s.SameCandidate (s.skipTimes r n) := by
  induction n generalizing s with
  | zero => exact ⟨rfl, rfl⟩
  | succ n ih => exact (State.SameCandidate.skip r s).trans (ih _)

theorem State.SameCandidate.trigger (s : State) : s.SameCandidate s.trigger := by
  cases h : s.triggerSkip with
  | none =>
    rw [State.trigger_of_taken h, State.takeTrigger_eq]
    exact ⟨rfl, rfl⟩
  | some r =>
    rw [State.trigger_of_skip h]
    exact .skip r s

theorem State.SameCandidate.advanceGrid (old : Int) (s : State) : s.SameCandidate (s.advanceGrid old) := by
  unfold State.advanceGrid
  split
  · split
    · exact ⟨rfl, rfl⟩
    · next k _ =>
      have hmoved : s.SameCandidate { s with expo := { s.expo with
          gridBase := s.expo.gridBase + ((k + 1) * s.cfg.exposure.pitch : Nat) } } := ⟨rfl, rfl⟩
      exact (hmoved.trans (.skipTimes _ _ _)).trans (.trigger _)
  · exact ⟨rfl, rfl⟩

/-! ### An edge that changes the position -/

theorem State.moveEncoder_eq (line : EncoderLine) (ready : Bool) (s : State) :
    ∃ (pins : PinLevels) (acc : Int),
      (s.seeRsv ready).moveEncoder line = { s with pins := pins, odo := { s.odo with acc := acc } } := by
  cases line <;> exact ⟨_, _, rfl⟩

theorem State.positionChanged_pos (old : Int) (s : State) : (s.positionChanged old).pos = s.pos := by
  obtain ⟨furthest, back, hodo⟩ := s.checkTravel_odo
  rw [State.pos, State.positionChanged_odo, hodo]
  rfl

theorem State.settle_pos (s : State) : s.settle.pos = s.pos := by
  simp only [State.pos, State.settle_frame]

/-- A valid edge that changes the position hands the change on. -/
theorem exec_encoderValidEdge_moved {line : EncoderLine} {ready : Bool} {s t : State}
    (h : exec (.encoderValidEdge line ready) s = .next t) (hmoved : t.pos ≠ s.pos) :
    ∃ (pins : PinLevels) (acc : Int) (v : State), v = { s with pins := pins, odo := { s.odo with acc := acc } }
      ∧ v.pos = t.pos ∧ t = (v.positionChanged s.pos).settle := by
  obtain ⟨pins, acc, hv⟩ := State.moveEncoder_eq line ready s
  have hexec := (exec_encoderValidEdge line ready s).symm.trans h
  rw [hv] at hexec
  refine ⟨pins, acc, _, rfl, ?_⟩
  split at hexec
  · next hsame =>
    cases hexec
    exact absurd ((State.settle_pos _).trans hsame) hmoved
  · cases hexec
    exact ⟨by rw [State.settle_pos, State.positionChanged_pos], rfl⟩

/-- In PAUSED and FAULTED the rest of a change of position marks and reports alone. -/
theorem State.positionChanged_quiet {s : State} (old : Int)
    (h : s.checkTravel.run.state = .paused ∨ s.checkTravel.run.state = .faulted) :
    s.checkTravel.MarksOnly (s.positionChanged old) := by
  have hquiet : s.checkTravel.run.state.acting = false := by rcases h with h | h <;> rw [h] <;> rfl
  have hgrid : ¬ (s.checkTravel.produces .distance && decide (old < s.checkTravel.pos)) = true := by
    simp [State.produces, hquiet]
  have hchannels : s.checkTravel.MarksOnly s.checkTravel.checkChannels := .checkChannels (.inl hquiet)
  have hne : s.checkTravel.checkChannels.run.state ≠ .measuring := by
    rw [hchannels.run]
    rcases h with h | h <;> rw [h] <;> decide
  rw [State.positionChanged, State.advanceGrid, if_neg hgrid, State.checkSpanMaximum_of_not_measuring hne]
  exact hchannels

/-- In ARMED without a candidate the rest of a change of position keeps the run and its cause. -/
theorem State.positionChanged_armed {s : State} (old : Int) (h : s.checkTravel.run.state = .armed)
    (hnone : s.checkTravel.span.candidate = none) :
    (s.positionChanged old).run = s.checkTravel.run ∧ (s.positionChanged old).rep.runCause = s.checkTravel.rep.runCause := by
  obtain ⟨hcandidate, hcause⟩ := State.SameCandidate.advanceGrid old s.checkTravel
  have hrun : (s.checkTravel.advanceGrid old).run = s.checkTravel.run := by simp
  have hchannels := State.MarksOnly.checkChannels (s := s.checkTravel.advanceGrid old) (.inr (hcandidate.trans hnone))
  have hne : (s.checkTravel.advanceGrid old).checkChannels.run.state ≠ .measuring := by
    rw [hchannels.run, hrun, h]
    decide
  rw [State.positionChanged, State.checkSpanMaximum_of_not_measuring hne]
  exact ⟨hchannels.run.trans hrun, hchannels.cause.trans hcause⟩

theorem Report.foldl_produce_spans (pos : Int) (time : Word32) (at_ : Int) (bodies : List EventBody) (r : Report) :
    (bodies.foldl (fun q b => q.produce pos time at_ b) r).spans = r.spans := by
  induction bodies generalizing r with
  | nil => rfl
  | cons b bs ih => rw [List.foldl_cons, ih, Report.produce_spans]

theorem Report.storeSpan_items_of_room {r : Report} (h : r.spans.items.length < 32) (pos : Int) (x : SpanRec) :
    (r.storeSpan pos x).spans.items = r.spans.items ++ [{ x with gap := r.spans.lost }] := by
  rw [Report.storeSpan]
  exact congrArg (fun q : Report => q.spans.items) (if_pos h)

/-- The span queue after a pause. -/
theorem State.pauseRun_spans {s : State} (h : s.run.state.acting = true) (furthest : Int) :
    (s.pauseRun furthest).rep.spans =
      (s.span.opened.elim s.rep fun o =>
        s.rep.storeSpan s.pos
          ((s.span.provisional.elim o (mergeSpans o)).closed s.span.view .reverse furthest .none
            (s.span.seq + 1))).spans := by
  rw [State.pauseRun_eq h]
  refine (Report.produce_spans _ _ _ _ _).trans ?_
  rw [State.tearDownSpans_eq, State.closedReport_foldBack]
  exact Report.foldl_produce_spans _ _ _ _ _

/-- Settles O32: the checks of the odometer case by case, and what an edge keeps of them. -/
theorem travelPausesAndResumesTheRun : Obligations.TravelPausesAndResumesTheRun := by
  refine ⟨fun line ready s t h hmoved => ?edge, fun s => ?checks⟩
  case checks =>
    dsimp only
    refine ⟨fun hstopped => ?stopped, fun hne hforward hback => ?forward, fun hforward hback hrun => ?notes,
      fun hforward hback hacting => ?pauses, fun hne hback hbelow => ?below,
      fun hback hreached => ⟨fun hne hpaused => ?unpaused, fun hpaused => ?resumes⟩⟩
    case stopped => rw [State.checkTravel, if_pos hstopped]
    case forward =>
      rw [State.checkTravel_eq hne, hforward, if_neg Bool.false_ne_true, if_neg hback]
      rfl
    case notes =>
      rw [State.checkTravel_notes hrun hforward hback]
      rfl
    case pauses =>
      have hacts : (s.travelled true).run.state.acting = true := (RunState.acting_eq_true_iff _).mpr hacting
      rw [State.checkTravel_pauses hacting hforward hback, State.pauseRun_eq hacts, State.tearDownSpans_eq,
        State.closedReport_foldBack, closeAllEvents_eq, liveAfter_const_empty]
      simp only [closeEvents_eq, State.closingNumber, State.travelled]
      cases s.span.opened with
      | none => rfl
      | some o => cases s.span.provisional <;> rfl
    case below =>
      have hmax : max s.odo.furthest s.pos = s.odo.furthest := by omega
      rw [State.checkTravel_eq hne, hback, if_pos rfl, if_neg (by omega), State.travelled, hmax, ← hback]
    case unpaused =>
      rw [State.checkTravel_returns hne hback hreached, State.resumeRun, if_neg (by exact hpaused)]
      rfl
    case resumes =>
      have hmax : max s.odo.furthest s.pos = s.pos := by omega
      rw [State.checkTravel_returns (by rw [hpaused]; decide) hback hreached, State.resumeRun_eq (by exact hpaused)]
      simp only [State.travelled, hmax]
      rfl
  case edge =>
    obtain ⟨pins, acc, v, hv, hpos, ht⟩ := exec_encoderValidEdge_moved h hmoved
    obtain ⟨link, items, flying, attn, hsettle⟩ := State.settle_changes (v.positionChanged s.pos)
    have hodo : v.odo = { s.odo with acc := acc } := by rw [hv]
    have hrun : v.run = s.run := by rw [hv]
    have hspan : v.span = s.span := by rw [hv]
    have hcfg : v.cfg = s.cfg := by rw [hv]
    have hkeep : v.odo.furthest = s.odo.furthest ∧ v.odo.backTravel = s.odo.backTravel := by rw [hodo]; exact ⟨rfl, rfl⟩
    obtain ⟨hfurthest, hmark⟩ := hkeep
    refine ⟨fun hacting hforward hback => ?paused, fun hpaused hback hnone hreached => ?armed,
      fun hfaulted hforward hback => ?faulted⟩
    case paused =>
      have hmax : max v.odo.furthest v.pos = s.odo.furthest := by rw [hfurthest]; omega
      have hacts : (v.travelled true).run.state.acting = true := by
        rw [State.travelled, hrun]
        exact (RunState.acting_eq_true_iff _).mpr hacting
      have hcheck : v.checkTravel = (v.travelled true).pauseRun s.odo.furthest := by
        rw [← hrun] at hacting
        rw [State.checkTravel_pauses hacting (hmark.trans hforward) (by rw [hmax, hcfg, hpos]; exact hback), hmax]
      obtain ⟨⟨mark, rep, hquiet⟩, hkept, hcause⟩ := State.positionChanged_quiet (s := v) s.pos
        (.inl (by rw [hcheck, State.pauseRun_eq hacts]))
      have hqueue : t.rep.spans.items = ((v.travelled true).pauseRun s.odo.furthest).rep.spans.items := by
        rw [ht, hsettle, ← hcheck, ← hkept]
      have hruncause : t.rep.runCause = true := by
        rw [ht, hsettle]
        refine hcause.trans ?_
        rw [hcheck, State.pauseRun_eq hacts]
      obtain ⟨htravelledSpan, htravelledRep⟩ : (v.travelled true).span = s.span ∧ (v.travelled true).rep = s.rep := by
        rw [hv]
        exact ⟨rfl, rfl⟩
      rw [State.pauseRun_spans hacts, htravelledSpan, htravelledRep] at hqueue
      rw [hcheck, State.pauseRun_eq hacts, State.travelled, hmax, hodo, hrun] at hquiet
      rw [ht, hsettle, hquiet] at hqueue hruncause ⊢
      refine ⟨rfl, rfl, rfl, by rw [hv], rfl, rfl, by rw [hv], by rw [hv], hruncause, fun hclosed => ?_,
        fun o hopen hroom => ?_⟩
      · rw [hclosed] at hqueue
        exact hqueue
      · rw [hopen, Option.elim_some, Report.storeSpan_items_of_room hroom] at hqueue
        refine ⟨_, hqueue, rfl, ?_, rfl, rfl⟩
        cases s.span.provisional with
        | none => rfl
        | some p => exact (mergeSpans_names o p).2
    case armed =>
      have hstate : v.run.state = .paused := by rw [hrun]; exact hpaused
      have hmax : max v.odo.furthest v.pos = v.pos := by rw [hfurthest]; omega
      have hcheck : v.checkTravel = (v.travelled false).resumeRun :=
        State.checkTravel_returns (by rw [hstate]; decide) (hmark.trans hback) (by rw [hfurthest, hpos]; exact hreached)
      rw [State.resumeRun_eq (by exact hstate)] at hcheck
      obtain ⟨hrun', hcause⟩ := State.positionChanged_armed (s := v) s.pos (by rw [hcheck]) (by
        rw [hcheck]
        exact (congrArg SpanBuilder.candidate hspan).trans hnone)
      rw [hcheck] at hrun' hcause
      have hodo' := State.positionChanged_odo s.pos v
      rw [hcheck, State.travelled, hmax] at hodo'
      have hreach := hpos
      rw [ht, hsettle, hrun', hodo'] at hreach ⊢
      exact ⟨by rw [State.travelled, hrun], rfl, hreach, hcause⟩
    case faulted =>
      have hstate : v.run.state = .faulted := by rw [hrun]; exact hfaulted
      have hmax : max v.odo.furthest v.pos = s.odo.furthest := by rw [hfurthest]; omega
      have hcheck : v.checkTravel = v.travelled true :=
        State.checkTravel_notes (.inr hstate) (hmark.trans hforward) (by rw [hmax, hcfg, hpos]; exact hback)
      have hquiet := State.positionChanged_quiet (s := v) s.pos (.inr (by rw [hcheck]; exact hstate))
      have hodo' := State.positionChanged_odo s.pos v
      rw [hcheck, State.travelled, hmax] at hodo'
      rw [ht, hsettle, hquiet.run, hodo', hcheck]
      exact ⟨hrun, rfl, rfl⟩

end Sys2Proof.Machine
end

section
/-! Head frames and head timeouts (statements O40 to O42). -/

namespace Sys2Proof.Machine

/-! ### The checks of a head frame (R2, R3) -/

theorem HeadReturn.inRange_iff (r : HeadReturn) : HeadReturn.inRange r = true ↔ r.zh ≤ 30000 ∧ r.wh ≤ 20000 := by
  rw [HeadReturn.inRange, Bool.and_eq_true, decide_eq_true_eq, decide_eq_true_eq]

/-- R3, check 6, on the bytes of the returns. -/
theorem readReturns_all_inRange_iff (n place : Nat) (bs : List Byte) :
    (readReturns n place bs).all HeadReturn.inRange = true ↔
      ∀ k, k < n → natOfBytes ((bs.drop (8 * k + 2)).take 2) ≤ 30000 ∧ natOfBytes ((bs.drop (8 * k + 4)).take 2) ≤ 20000 := by
  induction n generalizing place bs with
  | zero => simp [readReturns]
  | succ n ih =>
    have hnext : ∀ k j, ((bs.drop 8).drop (8 * k + j)) = bs.drop (8 * (k + 1) + j) := fun k j => by
      rw [List.drop_drop]
      congr 1
      omega
    rw [readReturns, List.all_cons, Bool.and_eq_true, ih, HeadReturn.inRange_iff, Nat.forall_lt_succ_left]
    simp only [hnext, readReturn, Nat.mul_zero, Nat.zero_add]

theorem checkReturns_cons (tag n : Byte) (rest : List Byte) :
    checkReturns (tag :: n :: rest) =
      if 6 < n.toNat then .failed .count
      else if rest.length = 8 * n.toNat then
        (if (readReturns n.toNat 0 rest).all HeadReturn.inRange then
          .valid { tag := tag, returns := readReturns n.toNat 0 rest } else .failed .range)
      else .failed .payloadLength := rfl

theorem checkReturns_of_short {payload : List Byte} (h : payload.length < 2) :
    checkReturns payload = .failed .payloadLength := by
  match payload, h with
  | [], _ => rfl
  | [_], _ => rfl

/-- R3, checks 1 and 2. -/
theorem checkHeadFrame_of_good {kind : Byte} {payload : List Byte} {crc : BitVec 16}
    (hcrc : crc = crc16 (toBytes 2 payload.length ++ kind :: payload)) (hkind : kind = 0x41) :
    checkHeadFrame kind payload crc = checkReturns payload := by
  rw [checkHeadFrame, crcBytes, if_neg (not_not_intro hcrc), if_neg (not_not_intro hkind)]

/-- A head frame that fails a check is a bad frame with its reason. -/
theorem exec_headFrameError_failed {h : Head} {s : State} {kind : Byte} {payload : List Byte} {crc : BitVec 16}
    {r : HeadReason} (hfail : checkHeadFrame kind payload crc = .failed r) :
    exec (.headFrameError h (.whole kind payload crc)) s = .next (s.badHeadFrame h r).settle := by
  rw [exec, execHeadFrameError]
  simp only [hfail]
  rfl

theorem exec_headFrameError_valid {h : Head} {s : State} {kind : Byte} {payload : List Byte} {crc : BitVec 16}
    {f : ReturnsFrame} (hvalid : checkHeadFrame kind payload crc = .valid f) :
    exec (.headFrameError h (.whole kind payload crc)) s = .next (s.changeHead h HeadLink.hunt).settle := by
  rw [exec, execHeadFrameError]
  simp only [hvalid]
  rfl

theorem State.abandonHeadFrame_inFrame {h : Head} {s : State} (hin : (s.heads.get h).receiver = .inFrame)
    (r : HeadReason) : s.abandonHeadFrame h r = s.badHeadFrame h r := if_pos hin

theorem State.abandonHeadFrame_hunting {h : Head} {s : State} (hhunting : (s.heads.get h).receiver = .hunting)
    (r : HeadReason) : s.abandonHeadFrame h r = s := if_neg (by rw [hhunting]; decide)

/-- Settles O41: frame by frame, check by check. -/
theorem headFrameErrorsAreDiscarded : Obligations.HeadFrameErrorsAreDiscarded := by
  intro h s
  dsimp only
  have hcode : (match h with | .a => 0 | .b => 1) = headCode h := by cases h <;> rfl
  refine ⟨fun hin => ?inFrame, fun hhunting => ?hunting, fun kind payload crc => ⟨fun hcrc => ?crc,
    fun hcrc hkind => ?kind, fun hcrc hkind hshort => ?short, fun tag n rest hcrc hkind hpayload => ?returns⟩, rfl⟩
  case inFrame =>
    simp only [exec, execHeadFrameError, execHeadByteGapTimeout, State.abandonHeadFrame_inFrame hin]
    cases h <;> exact ⟨rfl, rfl, rfl⟩
  case hunting =>
    simp only [exec, execHeadFrameError, execHeadByteGapTimeout, State.abandonHeadFrame_hunting hhunting]
    exact ⟨rfl, rfl, rfl⟩
  case crc =>
    rw [exec_headFrameError_failed (if_pos hcrc)]
    cases h <;> rfl
  case kind =>
    have hfail : checkHeadFrame kind payload crc = .failed .kind := by
      rw [checkHeadFrame, crcBytes, if_neg (not_not_intro hcrc), if_pos hkind]
    rw [exec_headFrameError_failed hfail]
    cases h <;> rfl
  case short =>
    rw [exec_headFrameError_failed ((checkHeadFrame_of_good hcrc hkind).trans (checkReturns_of_short hshort))]
    cases h <;> rfl
  case returns =>
    have hcheck := checkHeadFrame_of_good hcrc hkind
    have hrange := readReturns_all_inRange_iff n.toNat 0 rest
    rw [hpayload, checkReturns_cons] at hcheck
    rw [hpayload]
    refine ⟨fun hcount => ?_, fun hcount hlen => ?_, fun hcount hlen hbad => ?_, fun hcount hlen hgood => ?_⟩
    · rw [if_pos hcount] at hcheck
      rw [exec_headFrameError_failed hcheck]
      cases h <;> rfl
    all_goals rw [if_neg (Nat.not_lt.mpr hcount)] at hcheck
    · rw [if_neg hlen] at hcheck
      rw [exec_headFrameError_failed hcheck]
      cases h <;> rfl
    · have hnot : ¬ (readReturns n.toNat 0 rest).all HeadReturn.inRange = true := by
        rw [hrange]
        obtain ⟨k, hk, hover⟩ := hbad
        intro hall
        obtain ⟨hz, hw⟩ := hall k hk
        omega
      rw [if_pos hlen, if_neg hnot] at hcheck
      rw [exec_headFrameError_failed hcheck]
      cases h <;> rfl
    · rw [if_pos hlen, if_pos (hrange.mpr hgood)] at hcheck
      rw [exec_headFrameError_valid hcheck]
      rfl

/-! ### RETURNS frames (R4, R5, R9, R10) -/

theorem entryWithTag_eq_none_iff (tag : Byte) (table : List Entry) :
    entryWithTag tag table = none ↔ ∀ e ∈ table, e.exposure.setWidth 8 ≠ tag := by
  rw [entryWithTag, List.find?_eq_none]
  simp only [decide_eq_true_eq]
  rfl

/-- R9, R10: a filled entry, field by field. -/
theorem Entry.fill_eq (h : Head) (kept : List HeadReturn) (e : Entry) :
    e.fill h kept =
      { e with
        delivered := e.delivered.set h true, returnsA := if h = .a then kept else e.returnsA
        returnsB := if h = .b then kept else e.returnsB
        phase := if (e.expected.a || e.expected.b) && (!e.expected.a || decide (h = .a) || e.delivered.a)
                    && (!e.expected.b || decide (h = .b) || e.delivered.b) then .complete else e.phase } := by
  cases h with
  | a =>
    by_cases hall : (e.expected.a || e.expected.b) && (!e.expected.b || e.delivered.b)
    · simp [Entry.fill, Entry.allDelivered, Pair.set, hall]
    · simp [Entry.fill, Entry.allDelivered, Pair.set, hall]
  | b =>
    by_cases hall : (e.expected.a || e.expected.b) && (!e.expected.a || e.delivered.a)
    · simp [Entry.fill, Entry.allDelivered, Pair.set, hall]
    · simp [Entry.fill, Entry.allDelivered, Pair.set, hall]

theorem Entry.uses_iff (h : Head) (e : Entry) : e.uses h = true ↔ e.phase = .waiting ∧ e.delivered.get h = false := by
  rw [Entry.uses, Bool.and_eq_true, decide_eq_true_eq, Bool.not_eq_true']

theorem exec_returnsFrameReceived_valid {payload : List Byte} {f : ReturnsFrame} (hf : checkReturns payload = .valid f)
    (h : Head) (ready : Bool) (s : State) :
    exec (.returnsFrameReceived h payload ready) s = .next ((s.seeRsv ready).takeReturns h f).settle := by
  rw [exec, execReturnsFrameReceived]
  simp only [hf]
  rfl

/-- Settles O40: by the entry that carries the frame's tag, and the payload that fails. -/
theorem returnsFramesAreUsedOrLate : Obligations.ReturnsFramesAreUsedOrLate := by
  intro h ready s
  dsimp only
  refine ⟨fun f hf => ?valid, fun payload r hfail => ?failed⟩
  case valid =>
    rw [exec_returnsFrameReceived_valid (checkReturns_returnsBytes hf)]
    refine ⟨fun hnone => ?_, fun e he => ⟨fun hunused => ?_, fun hwaiting hfirst => ?_⟩⟩
    · have htag : entryWithTag f.tag ((s.seeRsv ready).changeHead h fun l => l.hunt.revive).table = none :=
        (entryWithTag_eq_none_iff _ _).mpr hnone
      rw [State.takeReturns]
      simp only [htag]
      cases h <;> rfl
    all_goals
      have htag : entryWithTag f.tag ((s.seeRsv ready).changeHead h fun l => l.hunt.revive).table = some e := he
      rw [State.takeReturns]
      simp only [htag]
    · have hnot : ¬ e.uses h = true := by
        rw [Entry.uses_iff]
        rintro ⟨hwaiting, hfirst⟩
        rcases hunused with hphase | hdelivered
        · exact hphase hwaiting
        · rw [hfirst] at hdelivered
          exact Bool.false_ne_true hdelivered
      rw [if_neg hnot]
      cases h <;> rfl
    · rw [if_pos ((Entry.uses_iff h e).mpr ⟨hwaiting, hfirst⟩), State.fillEntry, changeEntry]
      simp only [Entry.fill_eq]
      simp only [Bool.decide_and]
      cases h <;> rfl
  case failed =>
    rw [exec, execReturnsFrameReceived]
    simp only [hfail]
    cases h <;> rfl

end Sys2Proof.Machine
end

section
/-! The head timeout (statement O42). -/

namespace Sys2Proof.Machine

/-! ### Counting a silence (R11, R12) -/

/-- R11: the entry expected the head and has not had its frame. -/
def Entry.misses (e : Entry) (h : Head) : Bool := e.expected.get h && !e.delivered.get h

/-- R12: the silence makes the head LOST. -/
def Entry.loses (e : Entry) (h : Head) (l : HeadLink) : Bool := e.misses h && l.live && decide (15 ≤ l.silence)

/-- R11, R12: a head's link after the timeout of an entry. -/
def Entry.linkAfter (e : Entry) (h : Head) (l : HeadLink) : HeadLink :=
  if e.misses h then
    { l with silence := min 16 (l.silence + 1), live := l.live && decide (l.silence < 15) }
  else l

/-- R11, R12: what the timeout of an entry reports of a head. -/
def State.noteSilence (e : Entry) (h : Head) (l : HeadLink) (s : State) : State :=
  if e.misses h then
    (let u := s.raise .headSilent { qualifier := headCode h, number := 0 }
     if e.loses h l then u.raise .headLost { qualifier := headCode h, number := 0 } else u)
  else s

theorem HeadLink.countSilence_eq (l : HeadLink) :
    l.countSilence = { l with silence := min 16 (l.silence + 1), live := l.live && decide (l.silence < 15) } := by
  have hlimit : satAdd silenceLimit l.silence 1 < silenceLimit ↔ l.silence < 15 := by
    rw [satAdd, silenceLimit]
    omega
  rw [HeadLink.countSilence]
  simp only [hlimit]
  rfl

theorem HeadLink.lost_by_silence (l : HeadLink) : (l.live && !l.countSilence.live) = (l.live && decide (15 ≤ l.silence)) := by
  rw [HeadLink.countSilence_eq]
  cases l.live with
  | false => rfl
  | true =>
    by_cases h : l.silence < 15
    · simp [h]
    · simp [h, Nat.not_lt.mp h]

theorem Entry.linkAfter_live (e : Entry) (h : Head) (l : HeadLink) :
    (l.live && !(e.linkAfter h l).live) = e.loses h l := by
  rw [Entry.linkAfter, Entry.loses]
  cases hmiss : e.misses h with
  | false => simp
  | true =>
    rw [if_pos rfl, ← HeadLink.countSilence_eq, HeadLink.lost_by_silence]
    rfl

/-- What the timeout of an entry reports of a head, on the report alone. -/
def Report.noteSilence (pos : Int) (time : Word32) (spanOpen : Bool) (e : Entry) (h : Head) (l : HeadLink)
    (r : Report) : Report :=
  if e.misses h then
    (let u := r.raised pos time spanOpen .headSilent { qualifier := headCode h, number := 0 }
     if e.loses h l then u.raised pos time spanOpen .headLost { qualifier := headCode h, number := 0 } else u)
  else r

theorem State.noteSilence_eq (e : Entry) (h : Head) (l : HeadLink) (s : State) :
    s.noteSilence e h l =
      { s with rep := s.rep.noteSilence s.pos s.timeMs s.span.opened.isSome e h l } := by
  unfold State.noteSilence Report.noteSilence
  cases e.misses h with
  | false => rfl
  | true =>
    simp only [State.raise_eq, if_true]
    cases e.loses h l <;> rfl

theorem Pair.get_set_same {α : Type} (p : Pair α) (h : Head) (x : α) : (p.set h x).get h = x := by cases h <;> rfl

theorem State.countIfMissing_eq (e : Entry) (h : Head) (s : State) :
    s.countIfMissing e h =
      State.noteSilence e h (s.heads.get h) { s with heads := s.heads.set h (e.linkAfter h (s.heads.get h)) } := by
  rw [State.countIfMissing, State.noteSilence, Entry.linkAfter]
  cases hmiss : e.misses h with
  | false =>
    have hskip : ¬ (e.expected.get h && !e.delivered.get h) = true := Bool.eq_false_iff.mp hmiss
    rw [if_neg hskip]
    cases h <;> rfl
  | true =>
    have hlost : e.loses h (s.heads.get h) = ((s.heads.get h).live && !(s.heads.get h).countSilence.live) := by
      rw [HeadLink.lost_by_silence, Entry.loses, hmiss]
      rfl
    rw [if_pos (by exact hmiss), if_pos rfl, if_pos rfl, ← HeadLink.countSilence_eq, hlost, State.headSilent]
    simp only [State.raise_eq, State.changeHead, Pair.get_set_same]

/-! ### The timeout of an entry -/

/-- R11: the state in which the silences of an entry's heads have been counted. -/
def State.silencesCounted (e : Entry) (s : State) : State :=
  State.noteSilence e .b s.heads.b (State.noteSilence e .a s.heads.a
    { s with
      heads := ⟨e.linkAfter .a s.heads.a, e.linkAfter .b s.heads.b⟩
      table := changeEntry e.exposure Entry.timeOut s.table })

theorem State.silencesCounted_eq (e : Entry) (s : State) :
    State.countIfMissing e .b (State.countIfMissing e .a
        { s with table := changeEntry e.exposure Entry.timeOut s.table }) = s.silencesCounted e := by
  simp only [State.countIfMissing_eq, State.silencesCounted, State.noteSilence_eq]
  rfl

/-- Counting changes the table, the links and the report. -/
theorem State.silencesCounted_changes (e : Entry) (s : State) :
    ∃ rep : Report, s.silencesCounted e =
      { s with
        heads := ⟨e.linkAfter .a s.heads.a, e.linkAfter .b s.heads.b⟩
        table := changeEntry e.exposure Entry.timeOut s.table
        rep := rep } := by
  simp only [State.silencesCounted, State.noteSilence_eq]
  exact ⟨_, rfl⟩

/-- R12: a head became LOST and both are. -/
def Entry.bothLost (e : Entry) (heads : Pair HeadLink) : Prop :=
  (e.loses .a heads.a = true ∨ e.loses .b heads.b = true)
    ∧ (e.linkAfter .a heads.a).live = false ∧ (e.linkAfter .b heads.b).live = false

theorem lostCode_eq {a b : Bool} (h : a = true ∨ b = true) : lostCode a b = if a then (if b then 2 else 0) else 1 := by
  cases a <;> cases b <;> simp_all [lostCode, headCode]

theorem State.raiseHeadsLost_counted (e : Entry) (s : State) :
    (e.bothLost s.heads → (s.silencesCounted e).raiseHeadsLost s.heads =
      (s.silencesCounted e).raiseHalting .headsLost
        { qualifier := if e.loses .a s.heads.a then (if e.loses .b s.heads.b then 2 else 0) else 1, number := 0 })
      ∧ (¬ e.bothLost s.heads → (s.silencesCounted e).raiseHeadsLost s.heads = s.silencesCounted e) := by
  obtain ⟨rep, hcounted⟩ := s.silencesCounted_changes e
  have hheads : (s.silencesCounted e).heads = ⟨e.linkAfter .a s.heads.a, e.linkAfter .b s.heads.b⟩ := by rw [hcounted]
  have hboth : (((e.loses .a s.heads.a) || (e.loses .b s.heads.b))
      && !(e.linkAfter .a s.heads.a).live && !(e.linkAfter .b s.heads.b).live) = true ↔ e.bothLost s.heads := by
    rw [Bool.and_eq_true, Bool.and_eq_true, Bool.or_eq_true, Bool.not_eq_true', Bool.not_eq_true', and_assoc]
    rfl
  simp only [State.raiseHeadsLost, hheads, Entry.linkAfter_live]
  refine ⟨fun h => ?_, fun h => if_neg (mt hboth.mp h)⟩
  have hlost := h.1
  rw [if_pos (hboth.mpr h), lostCode_eq hlost]

theorem State.deliver_of_empty {s : State} (h : s.table = []) : s.deliver = s := by
  rw [State.deliver, h]
  rfl

/-- The head timeout of a WAITING entry whose window has ended. -/
theorem exec_headTimeout_of {tag : Byte} {s : State} {e : Entry} {ended : Nat} (he : entryWithTag tag s.table = some e)
    (hwaiting : e.phase = .waiting) (hended : e.windowEnd = some ended) (ready : Bool) :
    exec (.headTimeout tag ready) s =
      .next (((s.seeRsv ready).advanceTo (ended + 4000 * e.headTimeout)).expireEntry e).settle := by
  have hdue : e.timeoutDue = some (ended + 4000 * e.headTimeout) := by rw [Entry.timeoutDue, hended, ms_eq]; rfl
  rw [exec, execHeadTimeout]
  simp only [State.seeRsv_table, he, hwaiting, hdue]
  rfl

/-- Settles O42: with no timeout running, and by the heads that the silence leaves LOST. -/
theorem headTimeoutCountsTheSilent : Obligations.HeadTimeoutCountsTheSilent := by
  intro tag ready s
  dsimp only
  refine ⟨fun hidle => ?idle, fun e ended he hwaiting hended => ?runs⟩
  case idle =>
    rw [exec, execHeadTimeout]
    rcases hidle with hnone | ⟨e, he, hquiet⟩
    · simp only [State.seeRsv_table, (entryWithTag_eq_none_iff _ _).mpr hnone]
      rfl
    · simp only [State.seeRsv_table, he]
      split
      · next hwaiting hdue =>
        rcases hquiet with hphase | hopen
        · exact absurd hwaiting hphase
        · rw [Entry.timeoutDue, hopen] at hdue
          cases hdue
      · rfl
  case runs =>
    obtain ⟨hlost, hkept⟩ := State.raiseHeadsLost_counted e ((s.seeRsv ready).advanceTo (ended + 4000 * e.headTimeout))
    rw [exec_headTimeout_of he hwaiting hended, State.expireEntry, State.silencesCounted_eq]
    refine ⟨fun hnot => ?_, fun hboth => ?_, fun hboth hrun => ?_⟩
    · rw [hkept hnot]
      rfl
    · rw [hlost hboth]
      rfl
    · have hcounted : ∃ c : State, c = ((s.seeRsv ready).advanceTo (ended + 4000 * e.headTimeout)).silencesCounted e
          ∧ c.run = s.run ∧ c.heads = ⟨e.linkAfter .a s.heads.a, e.linkAfter .b s.heads.b⟩ ∧ c.trk = s.trk
          ∧ c.expo = s.expo ∧ c.cfg = s.cfg := by
        obtain ⟨rep, hc⟩ := ((s.seeRsv ready).advanceTo (ended + 4000 * e.headTimeout)).silencesCounted_changes e
        refine ⟨_, rfl, ?_⟩
        rw [hc]
        exact ⟨rfl, rfl, rfl, rfl, rfl⟩
      obtain ⟨c, hc, hcrun, hcheads, hctrk, hcexpo, hccfg⟩ := hcounted
      have hrunning : c.run.state.running = true := by
        rw [hcrun]
        exact (RunState.running_eq_true_iff _).mpr hrun
      rw [hlost hboth, ← hc,
        State.deliver_of_empty (by rw [State.raiseHalting_of_running hrunning, State.enterFaulted_eq])]
      obtain ⟨hrun', -, hheads, htable, htrk, hopened, -, hfault, hcause, hexpo⟩ :=
        State.settle_raiseHalting hrunning .headsLost _
      rw [hcrun] at hrun'
      rw [hcheads] at hheads
      rw [hctrk] at htrk
      rw [hcexpo, hccfg] at hexpo
      refine ⟨_, rfl, htable, hheads, hrun', hopened, htrk, hfault, hcause, fun harming hwindow => ?_, fun hcut => ?_⟩
      · exact hexpo.trans (Expo.faulted_of_uncut harming hwindow _ _)
      · rw [hc] at hexpo ⊢
        exact hexpo.trans (Expo.faulted_of_cut hcut _ _)

end Sys2Proof.Machine
end

section
/-! Sorted lists, and delivery in order (statement O43). -/

namespace Sys2Proof.Machine

/-! ### Sorting by a key -/

theorem keyLe_total (a b : List Int) : keyLe a b = true ∨ keyLe b a = true := by
  induction a generalizing b with
  | nil => exact .inl rfl
  | cons x xs ih =>
    cases b with
    | nil => exact .inr rfl
    | cons y ys =>
      simp only [keyLe]
      rcases lt_trichotomy x y with h | h | h
      · exact .inl (if_pos h)
      · simpa [h] using ih ys
      · exact .inr (if_pos h)

@[simp] theorem keyLe_nil (b : List Int) : keyLe [] b = true := rfl

theorem keyLe_cons_iff (x y : Int) (xs ys : List Int) :
    keyLe (x :: xs) (y :: ys) = true ↔ x < y ∨ (x = y ∧ keyLe xs ys = true) := by
  simp only [keyLe]
  split
  · next h => simp [h]
  · next h =>
    split
    · next h' => simp [h, ne_of_gt h']
    · next h' =>
      have heq : x = y := by omega
      simp [heq]

theorem keyLe_trans {a b c : List Int} (hab : keyLe a b = true) (hbc : keyLe b c = true) : keyLe a c = true := by
  induction a generalizing b c with
  | nil => rfl
  | cons x xs ih =>
    cases b with
    | nil => exact absurd hab Bool.false_ne_true
    | cons y ys =>
      cases c with
      | nil => exact absurd hbc Bool.false_ne_true
      | cons z zs =>
        rw [keyLe_cons_iff] at *
        rcases hab with hab | ⟨rfl, hab⟩
        · rcases hbc with hbc | ⟨rfl, hbc⟩
          · exact .inl (by omega)
          · exact .inl hab
        · rcases hbc with hbc | ⟨rfl, hbc⟩
          · exact .inl hbc
          · exact .inr ⟨rfl, ih hab hbc⟩

theorem insertByKey_eq {α : Type} (key : α → List Int) (x : α) (l : List α) :
    insertByKey key x l = l.orderedInsert (fun x y => keyLe (key x) (key y) = true) x := by
  induction l with
  | nil => rfl
  | cons y ys ih => rw [insertByKey, List.orderedInsert, ih]

theorem sortByKey_eq {α : Type} (key : α → List Int) (l : List α) :
    sortByKey key l = l.insertionSort (fun x y => keyLe (key x) (key y) = true) := by
  induction l with
  | nil => rfl
  | cons x xs ih => rw [sortByKey, List.insertionSort_cons, ih, insertByKey_eq]

theorem sortByKey_perm {α : Type} (key : α → List Int) (l : List α) : (sortByKey key l).Perm l := by
  rw [sortByKey_eq]
  exact List.perm_insertionSort _ _

theorem sortByKey_pairwise {α : Type} (key : α → List Int) (l : List α) :
    (sortByKey key l).Pairwise fun x y => keyLe (key x) (key y) = true := by
  have htotal : Std.Total (fun x y : α => keyLe (key x) (key y) = true) := ⟨fun _ _ => keyLe_total _ _⟩
  have htrans : IsTrans α (fun x y => keyLe (key x) (key y) = true) := ⟨fun _ _ _ => keyLe_trans⟩
  rw [sortByKey_eq]
  exact List.pairwise_insertionSort _ _

@[simp] theorem sortByKey_length {α : Type} (key : α → List Int) (l : List α) : (sortByKey key l).length = l.length :=
  (sortByKey_perm key l).length_eq

theorem mem_sortByKey {α : Type} (key : α → List Int) {l : List α} {x : α} : x ∈ sortByKey key l ↔ x ∈ l :=
  (sortByKey_perm key l).mem_iff

/-! ### Delivery, entry by entry (R13) -/

theorem Entry.due_iff (e : Entry) : e.due = true ↔ e.phase = .complete ∨ e.phase = .timedOut := by
  unfold Entry.due
  cases e.phase <;> simp

theorem Entry.due_eq_false_iff (e : Entry) : e.due = false ↔ e.phase = .allocated ∨ e.phase = .waiting := by
  unfold Entry.due
  cases e.phase <;> simp

theorem State.deliver_of_due {s : State} {e : Entry} {es : List Entry} (htable : s.table = e :: es) (hdue : e.due = true) :
    s.deliver = (State.deliverScan e { s with table := es }).deliver := by
  have hrest : (State.deliverScan e { s with table := es }).table = es := by simp
  rw [State.deliver, State.deliver, hrest, htable, List.length_cons, State.deliverLoop, htable]
  exact if_pos hdue

theorem State.deliver_of_not_due {s : State} {e : Entry} {es : List Entry} (htable : s.table = e :: es)
    (hdue : e.due = false) : s.deliver = s := by
  rw [State.deliver, htable, List.length_cons, State.deliverLoop, htable]
  exact if_neg (Bool.eq_false_iff.mp hdue)

/-- R18: a scan's live slot 3 stays while the scan is processed. -/
theorem State.deliverScan_liveExpo (e : Entry) (s : State) :
    (s.deliverScan e).live.expo =
      { counter := s.expo.counter, skipped := s.expo.skipped, flags := e.flags.withAbsence e.delivered
        exposure := e.exposure, rsvRdy := s.pins.rsvRdy, fresh := true } := by
  have hprocess : ∀ (scan : Scan) (t : State), (t.processScan scan).live.expo = t.live.expo := by
    intro scan t
    unfold State.processScan
    split
    · simp [State.track]
    · rfl
  rw [State.deliverScan, hprocess, State.touchLiveScan]
  simp [scanOf]

/-- R17, R18: the cut is reported, and live slot 3 shows the scan. -/
theorem State.shown_eq (scan : Scan) (s : State) :
    (s.raiseTruncated scan.removed).touchLiveScan scan =
      { (if scan.removed = 0 then s else s.raise .returnsTruncated { qualifier := 0, number := scan.removed }) with
        live := { s.live with
                  expo := { counter := s.expo.counter, skipped := s.expo.skipped, flags := scan.flags
                            exposure := scan.exposure, rsvRdy := s.pins.rsvRdy, fresh := true } } } := by
  unfold State.raiseTruncated
  by_cases h : scan.removed = 0
  · rw [if_pos h]
    rfl
  · rw [if_neg h, State.raise_eq]
    rfl

theorem State.deliverScan_discards {s : State} (h : s.run.state.acting = false) (e : Entry) :
    (s.deliverScan e).trk = s.trk ∧ (s.deliverScan e).span = s.span := by
  have hnot : ¬ ((s.raiseTruncated (scanOf s.cal.work s.cfg e).removed).touchLiveScan
      (scanOf s.cal.work s.cfg e)).run.state.acting = true := by simp [h]
  rw [State.deliverScan, State.processScan, if_neg hnot]
  simp

/-- What the delivery of a table leaves: `k` entries have gone. -/
structure State.Delivered (s t : State) (k : Nat) : Prop where
  le : k ≤ s.table.length
  table : t.table = s.table.drop k
  due : ∀ e ∈ s.table.take k, e.due = true
  stop : ∀ e : Entry, t.table.head? = some e → e.due = false
  none : k = 0 → t = s
  last : ∀ e : Entry, (s.table.take k).getLast? = some e →
    t.live.expo.exposure = e.exposure ∧ t.live.expo.fresh = true ∧ t.live.expo.flags = e.flags.withAbsence e.delivered
  discard : s.run.state.acting = false → t.trk = s.trk ∧ t.span = s.span

theorem State.deliver_delivered (s : State) : ∃ k, s.Delivered s.deliver k := by
  obtain ⟨table, htable⟩ : ∃ table, s.table = table := ⟨_, rfl⟩
  induction table generalizing s with
  | nil =>
    rw [State.deliver_of_empty htable]
    exact ⟨0, by simp, by simp, by simp, by simp [htable], fun _ => rfl, by simp, fun _ => ⟨rfl, rfl⟩⟩
  | cons e es ih =>
    cases hdue : e.due with
    | false =>
      rw [State.deliver_of_not_due htable hdue]
      exact ⟨0, by simp, by simp, by simp, by simp [htable, hdue], fun _ => rfl, by simp, fun _ => ⟨rfl, rfl⟩⟩
    | true =>
      have hrest : (State.deliverScan e { s with table := es }).table = es := by simp
      obtain ⟨k, hk⟩ := ih _ hrest
      rw [State.deliver_of_due htable hdue]
      refine ⟨k + 1, ?_, ?_, ?_, hk.stop, fun h => absurd h (Nat.succ_ne_zero k), fun x hx => ?_, fun hquiet => ?_⟩
      · have hle := hk.le
        rw [hrest] at hle
        simpa [htable] using hle
      · rw [hk.table, hrest, htable, List.drop_succ_cons]
      · have htaken := hk.due
        rw [hrest] at htaken
        simpa [htable, hdue] using htaken
      · rw [htable, List.take_succ_cons] at hx
        have hlast := hk.last
        rw [hrest] at hlast
        cases htake : es.take k with
        | nil =>
          have hzero : k = 0 := by
            have hle := hk.le
            have hlen := congrArg List.length htake
            rw [List.length_take, List.length_nil] at hlen
            rw [hrest] at hle
            omega
          rw [htake, List.getLast?_singleton, Option.some.injEq] at hx
          rw [hk.none hzero, State.deliverScan_liveExpo, hx]
          exact ⟨rfl, rfl, rfl⟩
        | cons y ys =>
          rw [htake, List.getLast?_cons_cons] at hx
          rw [htake] at hlast
          exact hlast x hx
      · obtain ⟨htrk, hspan⟩ := State.deliverScan_discards (s := { s with table := es }) hquiet e
        obtain ⟨htrk', hspan'⟩ := hk.discard (by simpa using hquiet)
        exact ⟨htrk'.trans htrk, hspan'.trans hspan⟩

/-! ### The list of a scan (R17, R18) -/

theorem returnList_length_le (c : CalFields) (e : Entry) : (returnList c e).1.length ≤ 8 := by
  simp only [returnList, sortByKey_length, cutReturns, List.length_take, scanCapacity]
  omega

theorem xc_le_of_listKey {x y : ScanReturn} (h : keyLe (listKey x) (listKey y) = true) : x.xc ≤ y.xc := by
  rw [listKey, listKey, keyLe_cons_iff] at h
  omega

/-- Settles O43: the delivery of a table by induction on it, one entry unfolded, and the order of the list. -/
theorem scansAreDeliveredInOrder : Obligations.ScansAreDeliveredInOrder := by
  refine ⟨fun s => ?_, fun c e => ⟨returnList_length_le c e, (sortByKey_pairwise listKey _).imp xc_le_of_listKey⟩⟩
  obtain ⟨k, hk⟩ := s.deliver_delivered
  refine ⟨k, hk.le, hk.table, fun e he => (Entry.due_iff e).mp (hk.due e he),
    fun e he => (Entry.due_eq_false_iff e).mp (hk.stop e he), hk.none, fun e es htable hphase => ?unfolds,
    fun e he => ?last, fun harmed hmeasuring => hk.discard ?quiet, ?_⟩
  case unfolds =>
    dsimp only
    rw [State.deliver_of_due htable ((Entry.due_iff e).mpr hphase), State.deliverScan, State.processScan]
    by_cases hacting : s.run.state = .armed ∨ s.run.state = .measuring
    · rw [if_pos hacting, if_pos]
      · rw [State.shown_eq]
        rfl
      · simpa using (RunState.acting_eq_true_iff _).mpr hacting
    · rw [if_neg hacting, if_neg]
      · rw [State.shown_eq]
        rfl
      · simpa using mt (RunState.acting_eq_true_iff _).mp hacting
  case last =>
    obtain ⟨hexposure, hfresh, hflags⟩ := hk.last e he
    rw [hflags]
    exact ⟨hexposure, hfresh, rfl, rfl⟩
  case quiet =>
    rw [Bool.eq_false_iff, Ne, RunState.acting_eq_true_iff]
    exact fun h => h.elim harmed hmeasuring
  · simp

end Sys2Proof.Machine
end

section
/-! Rounding, the reported frame and the track frame (statement O44). -/

namespace Sys2Proof.Machine

/-! ### Rounding half away from zero (R71) -/

/-- A nearest quotient of natural numbers, halves upward. -/
theorem nearest_bounds {D : Nat} (hD : 0 < D) (N : Nat) :
    2 * D * ((2 * N + D) / (2 * D)) ≤ 2 * N + D ∧ 2 * N + D < 2 * D * ((2 * N + D) / (2 * D)) + 2 * D := by
  have hsplit := Nat.div_add_mod (2 * N + D) (2 * D)
  have hmod := Nat.mod_lt (2 * N + D) (show 0 < 2 * D by omega)
  omega

/-- The quotient of R71 against the quotient of the magnitudes. -/
theorem roundDiv_mul (n d : Int) (hd : d ≠ 0) :
    ∃ Q : Nat, (Q = (2 * n.natAbs + d.natAbs) / (2 * d.natAbs))
      ∧ (roundDiv n d * d = (Q * d.natAbs : Nat) ∧ 0 ≤ n ∨ roundDiv n d * d = -(Q * d.natAbs : Nat) ∧ n < 0) := by
  refine ⟨_, rfl, ?_⟩
  generalize hQ : (2 * n.natAbs + d.natAbs) / (2 * d.natAbs) = Q
  have hval : roundDiv n d = if n < 0 ↔ d < 0 then (Q : Int) else -Q := by rw [roundDiv, hQ]
  push_cast
  rcases lt_or_gt_of_ne hd with hneg | hpos
  · by_cases hn : n < 0
    · rw [hval, if_pos (by simp [hn, hneg]), abs_of_neg hneg]
      exact .inr ⟨by ring, hn⟩
    · rw [hval, if_neg (by simp [hn, hneg]), abs_of_neg hneg]
      exact .inl ⟨by ring, by omega⟩
  · by_cases hn : n < 0
    · rw [hval, if_neg (by simp [hn, hpos.le]), abs_of_pos hpos]
      exact .inr ⟨by ring, hn⟩
    · rw [hval, if_pos (by simp [hn, hpos.le]), abs_of_pos hpos]
      exact .inl ⟨by ring, by omega⟩

theorem rounds_roundDiv {n d : Int} (hd : d ≠ 0) : rounds n d (roundDiv n d) := by
  obtain ⟨Q, hQ, hmul⟩ := roundDiv_mul n d hd
  obtain ⟨hlow, hhigh⟩ := nearest_bounds (Int.natAbs_pos.mpr hd) n.natAbs
  rw [← hQ] at hlow hhigh
  have hlin : 2 * d.natAbs * Q = 2 * (Q * d.natAbs) := by ring
  rw [hlin] at hlow hhigh
  unfold rounds
  omega

/-- Two quotients that round would lie one apart with the dividend halfway between them, and one of them is not further
from zero than the dividend. -/
theorem not_rounds_of_lt {n d q q' : Int} (hd : d ≠ 0) (h : rounds n d q) (h' : rounds n d q') : ¬ q < q' := by
  intro hlt
  obtain ⟨hnear, hhalf⟩ := h
  obtain ⟨hnear', hhalf'⟩ := h'
  have hgap : q' * d - q * d = (q' - q) * d := by ring
  have habs : (q' * d - q * d).natAbs = (q' - q).natAbs * d.natAbs := by rw [hgap, Int.natAbs_mul]
  have hone : q' - q = 1 := by
    by_contra hne
    have htwo : 2 * d.natAbs ≤ (q' - q).natAbs * d.natAbs := Nat.mul_le_mul_right _ (by omega)
    omega
  have hq' : q' = q + 1 := by omega
  subst hq'
  have hnext : (q + 1) * d = q * d + d := by ring
  rw [hnext] at *
  have hsides : (0 ≤ q * d ∧ 0 ≤ q * d + d) ∨ (q * d ≤ 0 ∧ q * d + d ≤ 0) := by
    rcases lt_or_gt_of_ne hd with hneg | hpos
    · rcases lt_or_ge q 0 with hq | hq
      · exact .inl ⟨by nlinarith, by nlinarith⟩
      · exact .inr ⟨by nlinarith, by nlinarith⟩
    · rcases lt_or_ge q 0 with hq | hq
      · exact .inr ⟨by nlinarith, by nlinarith⟩
      · exact .inl ⟨by nlinarith, by nlinarith⟩
  omega

theorem rounds_unique {n d q q' : Int} (hd : d ≠ 0) (h : rounds n d q) (h' : rounds n d q') : q = q' := by
  have hle := not_rounds_of_lt hd h h'
  have hge := not_rounds_of_lt hd h' h
  omega

/-! ### The reported frame (R73, R74) -/

/-- R74: the left head, for an orientation. -/
def leftHead (reversed : Bool) (h : Head) : Prop := (h = .a ∧ reversed = false) ∨ (h = .b ∧ reversed = true)

theorem thermalXc_eq (c : CalFields) (reversed : Bool) (strain : Int) (h : Head) (xh : Int) :
    (leftHead reversed h → thermalXc c reversed strain h xh =
        (if reversed then -xh else xh) * 100
          - roundDiv ((match h with | .a => c.lA | .b => c.lB) * strain) 1000000)
      ∧ (¬ leftHead reversed h → thermalXc c reversed strain h xh =
        (if reversed then -xh else xh) * 100
          + roundDiv ((match h with | .a => c.lA | .b => c.lB) * strain) 1000000) := by
  cases h <;> cases reversed <;> simp [leftHead, thermalXc, headShift]

/-- Settles O44: the rounding, the reported frame by head and orientation, and the track frame. -/
theorem returnsReachTheTrackFrame : Obligations.ReturnsReachTheTrackFrame := by
  refine ⟨fun n d hd => ⟨rounds_roundDiv hd, fun q hq => rounds_unique hd hq (rounds_roundDiv hd)⟩, fun c e h r => ?_,
    fun c g reversed snap r => ⟨rfl, rfl, rfl, rfl, rfl, rfl⟩⟩
  obtain ⟨hleft, hright⟩ := thermalXc_eq c e.reversed e.strain h r.xh
  refine ⟨hleft, hright, by cases h <;> rfl, rfl, rfl, rfl, rfl, rfl, ?_⟩
  simp only [placeReturn, inBand, Bool.and_eq_true, decide_eq_true_eq]

end Sys2Proof.Machine
end

section
/-! The pairs of both heads, the merged list and its cut (statement O45). -/

namespace Sys2Proof.Machine

/-! ### Taking pairs in order (R15) -/

/-- The key by which candidate pairs are taken. -/
def sightingKey (p : Sighting) : List Int := [p.dx, (p.a.place : Int), (p.b.place : Int)]

theorem mem_takePairs {as bs : List Nat} {ps : List Sighting} {p : Sighting} (h : p ∈ takePairs as bs ps) :
    p ∈ ps ∧ p.a.place ∉ as ∧ p.b.place ∉ bs := by
  induction ps generalizing as bs with
  | nil => exact absurd h List.not_mem_nil
  | cons q qs ih =>
    rw [takePairs] at h
    split at h
    · obtain ⟨hmem, ha, hb⟩ := ih h
      exact ⟨List.mem_cons_of_mem _ hmem, ha, hb⟩
    · next hfree =>
      rw [Bool.or_eq_true, not_or, List.contains_iff_mem, List.contains_iff_mem] at hfree
      rcases List.mem_cons.mp h with rfl | h
      · exact ⟨List.mem_cons_self, hfree.1, hfree.2⟩
      · obtain ⟨hmem, ha, hb⟩ := ih h
        exact ⟨List.mem_cons_of_mem _ hmem, fun h => ha (List.mem_cons_of_mem _ h), fun h => hb (List.mem_cons_of_mem _ h)⟩

theorem takePairs_pairwise (as bs : List Nat) (ps : List Sighting) :
    (takePairs as bs ps).Pairwise fun p q => p.a.place ≠ q.a.place ∧ p.b.place ≠ q.b.place := by
  induction ps generalizing as bs with
  | nil => exact .nil
  | cons p ps ih =>
    rw [takePairs]
    split
    · exact ih as bs
    · refine .cons (fun q hq => ?_) (ih _ _)
      obtain ⟨-, ha, hb⟩ := mem_takePairs hq
      exact ⟨fun heq => ha (heq ▸ List.mem_cons_self), fun heq => hb (heq ▸ List.mem_cons_self)⟩

/-- A pair that is not taken shares a member with one that was taken before, or with one taken earlier in the order. -/
theorem takePairs_yields {as bs : List Nat} {ps : List Sighting}
    (hsorted : ps.Pairwise fun p q => keyLe (sightingKey p) (sightingKey q) = true) {p : Sighting} (hp : p ∈ ps)
    (hleft : p ∉ takePairs as bs ps) :
    (p.a.place ∈ as ∨ p.b.place ∈ bs)
      ∨ ∃ q ∈ takePairs as bs ps, keyLe (sightingKey q) (sightingKey p) = true
          ∧ (q.a.place = p.a.place ∨ q.b.place = p.b.place) := by
  induction ps generalizing as bs with
  | nil => exact absurd hp List.not_mem_nil
  | cons x xs ih =>
    obtain ⟨hfirst, hrest⟩ := List.pairwise_cons.mp hsorted
    rw [takePairs] at hleft ⊢
    split at hleft
    · next hused =>
      rw [if_pos hused]
      rcases List.mem_cons.mp hp with rfl | hp
      · rw [Bool.or_eq_true, List.contains_iff_mem, List.contains_iff_mem] at hused
        exact .inl hused
      · exact ih hrest hp hleft
    · next hfree =>
      rw [if_neg hfree]
      obtain ⟨hne, hleft⟩ := not_or.mp (mt List.mem_cons.mpr hleft)
      have hmem : p ∈ xs := (List.mem_cons.mp hp).resolve_left hne
      rcases ih hrest hmem hleft with hused | ⟨q, hq, hle, hshared⟩
      · rw [List.mem_cons, List.mem_cons] at hused
        rcases hused with (heq | ha) | (heq | hb)
        · exact .inr ⟨x, List.mem_cons_self, hfirst p hmem, .inl heq.symm⟩
        · exact .inl (.inl ha)
        · exact .inr ⟨x, List.mem_cons_self, hfirst p hmem, .inr heq.symm⟩
        · exact .inl (.inr hb)
      · exact .inr ⟨q, List.mem_cons_of_mem _ hq, hle, hshared⟩

theorem sightingKey_le_iff (p q : Sighting) :
    keyLe (sightingKey p) (sightingKey q) = true ↔
      p.dx < q.dx ∨ (p.dx = q.dx ∧ (p.a.place < q.a.place ∨ (p.a.place = q.a.place ∧ p.b.place ≤ q.b.place))) := by
  simp only [sightingKey, keyLe_cons_iff, keyLe_nil, and_true]
  omega

/-! ### Candidates (R15) -/

theorem isCandidate_iff (e : Entry) (a b : Placed) :
    isCandidate e a b = true ↔
      a.band = true ∧ b.band = true ∧ (a.ret.xc - b.ret.xc).natAbs ≤ e.dedupDx * 100
        ∧ (a.ret.zh - b.ret.zh).natAbs ≤ e.dedupDz := by
  simp only [isCandidate, Bool.and_eq_true, decide_eq_true_eq, and_assoc]

theorem mem_candidatePairs {e : Entry} {as bs : List Placed} {p : Sighting} :
    p ∈ candidatePairs e as bs ↔
      ∃ a ∈ as, ∃ b ∈ bs, a.band = true ∧ b.band = true ∧ (a.ret.xc - b.ret.xc).natAbs ≤ e.dedupDx * 100
        ∧ (a.ret.zh - b.ret.zh).natAbs ≤ e.dedupDz
        ∧ p = { a := a.ret, b := b.ret, dx := ((a.ret.xc - b.ret.xc).natAbs : Int) } := by
  rw [candidatePairs, mem_sortByKey, List.mem_flatten]
  constructor
  · rintro ⟨l, hl, hp⟩
    obtain ⟨a, ha, rfl⟩ := List.mem_map.mp hl
    obtain ⟨b, hb, rfl⟩ := List.mem_map.mp hp
    obtain ⟨hb, hcandidate⟩ := List.mem_filter.mp hb
    obtain ⟨hbandA, hbandB, hx, hz⟩ := (isCandidate_iff e a b).mp hcandidate
    exact ⟨a, ha, b, hb, hbandA, hbandB, hx, hz, rfl⟩
  · rintro ⟨a, ha, b, hb, hbandA, hbandB, hx, hz, rfl⟩
    exact ⟨_, List.mem_map.mpr ⟨a, ha, rfl⟩, List.mem_map.mpr ⟨b, List.mem_filter.mpr
      ⟨hb, (isCandidate_iff e a b).mpr ⟨hbandA, hbandB, hx, hz⟩⟩, rfl⟩⟩

/-! ### The list and its cut (R16 to R18) -/

/-- The order of R18. -/
theorem listKey_le_iff (x y : ScanReturn) :
    keyLe (listKey x) (listKey y) = true ↔
      x.xc < y.xc ∨ (x.xc = y.xc
        ∧ (x.source.rank < y.source.rank ∨ (x.source.rank = y.source.rank ∧ x.place ≤ y.place))) := by
  simp only [listKey, keyLe_cons_iff, keyLe_nil, and_true]
  omega

/-- The order of R17: the larger peak, then the order of R18. -/
theorem cutKey_le_iff (x y : ScanReturn) :
    keyLe (cutKey x) (cutKey y) = true ↔ y.peak < x.peak ∨ (x.peak = y.peak ∧ keyLe (listKey x) (listKey y) = true) := by
  have hpeak : -(x.peak : Int) < -(y.peak : Int) ↔ y.peak < x.peak := by omega
  have hlevel : -(x.peak : Int) = -(y.peak : Int) ↔ x.peak = y.peak := by omega
  rw [cutKey, cutKey, keyLe_cons_iff, hpeak, hlevel]
  rfl

/-- R17: the returns kept and the returns cut. -/
theorem cut_splits (rs : List ScanReturn) :
    ∃ cut : List ScanReturn, rs.Perm (sortByKey listKey (cutReturns rs) ++ cut)
      ∧ ∀ x ∈ sortByKey listKey (cutReturns rs), ∀ y ∈ cut, keyLe (cutKey x) (cutKey y) = true := by
  have hsplit := List.take_append_drop scanCapacity (sortByKey cutKey rs)
  have hsorted := sortByKey_pairwise cutKey rs
  rw [← hsplit, List.pairwise_append] at hsorted
  obtain ⟨-, -, hcross⟩ := hsorted
  refine ⟨(sortByKey cutKey rs).drop scanCapacity, ?_, fun x hx y hy => hcross x ((mem_sortByKey _).mp hx) y hy⟩
  have hkept := (sortByKey_perm listKey (cutReturns rs)).symm.append_right ((sortByKey cutKey rs).drop scanCapacity)
  rw [cutReturns, hsplit] at hkept
  exact (sortByKey_perm cutKey rs).symm.trans hkept

theorem mergeReturns_eq (e : Entry) (as bs : List Placed) :
    mergeReturns e as bs =
      (takePairs [] [] (candidatePairs e as bs)).map mergePair
        ++ (as.filter fun a => (takePairs [] [] (candidatePairs e as bs)).all fun p =>
            decide (p.a.place ≠ a.ret.place)).map Placed.ret
        ++ (bs.filter fun b => (takePairs [] [] (candidatePairs e as bs)).all fun p =>
            decide (p.b.place ≠ b.ret.place)).map Placed.ret := by
  have hunused : ∀ (f : Sighting → Nat) (ps : List Sighting) (n : Nat),
      (!(ps.map f).contains n) = ps.all fun p => decide (f p ≠ n) := by
    intro f ps n
    rw [Bool.eq_iff_iff]
    simp
  simp only [mergeReturns, hunused]

/-- Settles O45: the pairs taken by their order, the rest of the list, and the cut by the order of R17. -/
theorem headReturnsAreMergedAndCut : Obligations.HeadReturnsAreMergedAndCut := by
  intro c g e as bs candidate noLater merged rank listed list kept
  have hlist : list = mergeReturns e as bs := rfl
  have hkept : kept = sortByKey listKey (cutReturns list) := rfl
  have hlisted : ∀ x y : ScanReturn, keyLe (listKey x) (listKey y) = true ↔ listed x y := by
    exact fun x y => listKey_le_iff x y
  refine ⟨⟨takePairs [] [] (candidatePairs e as bs), fun p hp => ?_, takePairs_pairwise [] [] _, fun p hp hleft => ?_,
    mergeReturns_eq e as bs⟩, ?_, rfl, ?_, ?_, ?_⟩
  · exact mem_candidatePairs.mp (mem_takePairs hp).1
  · obtain hused | ⟨q, hq, hle, hshared⟩ :=
      takePairs_yields (sortByKey_pairwise sightingKey _) (mem_candidatePairs.mpr hp) hleft
    · simp at hused
    · exact ⟨q, hq, (sightingKey_le_iff q p).mp hle, hshared⟩
  · rw [hkept, sortByKey_length, cutReturns, List.length_take, sortByKey_length]
    rfl
  · exact (sortByKey_pairwise listKey _).imp (hlisted _ _).mp
  · obtain ⟨cut, hperm, hcross⟩ := cut_splits list
    refine ⟨cut, hperm, fun x hx y hy => ?_⟩
    rw [← hlisted, ← cutKey_le_iff]
    exact hcross x hx y hy
  · exact ⟨rfl, rfl, rfl, rfl, rfl, rfl, rfl⟩

end Sys2Proof.Machine
end

section
/-! The channels and their users, the filters and OPERATOR_MARK (statements O54, O55). -/

namespace Sys2Proof.Machine

/-! ### The mast source moves (R53, R54) -/

theorem State.moveMast_stay (s : State) : s.moveMast s.mark.mast.stay = s := rfl

theorem State.moveMast_startAt_idle {s : State} (h : s.mark.mast.state = .idle) (pos : Int) (src : Source) :
    s.moveMast (s.mark.mast.startAt pos src) =
      State.candidateAsserted pos src
        { s with mark := { s.mark with mast := { state := .pending, candidate := pos, source := src } } } := by
  rw [Mast.startAt, if_pos h]
  rfl

theorem State.moveMast_startAt_of_ne {s : State} (h : s.mark.mast.state ≠ .idle) (pos : Int) (src : Source) :
    s.moveMast (s.mark.mast.startAt pos src) = s := by
  rw [Mast.startAt, if_neg h, State.moveMast_stay]

theorem State.moveMast_qualifyAs_pending {s : State} (h : s.mark.mast.state = .pending) (src : Source) :
    s.moveMast (s.mark.mast.qualifyAs src) =
      State.candidateQualified src
        { s with mark := { s.mark with mast := { s.mark.mast with state := .qualified, source := src } } } := by
  rw [Mast.qualifyAs, if_pos h]
  rfl

theorem State.moveMast_qualifyAs_of_ne {s : State} (h : s.mark.mast.state ≠ .pending) (src : Source) :
    s.moveMast (s.mark.mast.qualifyAs src) = s := by
  rw [Mast.qualifyAs, if_neg h, State.moveMast_stay]

/-- R53, R54: the mast source has gone to IDLE. -/
def State.mastIdled (s : State) : State := { s with mark := { s.mark with mast := .idle } }

theorem State.moveMast_drop (s : State) :
    s.moveMast s.mark.mast.drop =
      match s.mark.mast.state with
      | .idle => s
      | .pending => if s.run.state = .armed ∨ s.run.state = .measuring then s.mastIdled.candidateFailed else s.mastIdled
      | .qualified => s.mastIdled := by
  have hacting : ∀ t : State, (if s.run.state.acting then t.candidateFailed else t) =
      if s.run.state = .armed ∨ s.run.state = .measuring then t.candidateFailed else t := fun t => by
    simp only [RunState.acting_eq_true_iff]
  rw [Mast.drop]
  cases s.mark.mast.state with
  | idle => rfl
  | pending => exact hacting s.mastIdled
  | qualified => rfl

/-! ### The members of the mast source (R53) -/

theorem MastSetting.uses_iff (set : MastSetting) (m : Marker) :
    set.uses m = true ↔ (m = .n0 ∧ set ≠ .mk2) ∨ (m = .n1 ∧ set ≠ .mk1) := by
  cases m <;> simp [MastSetting.uses]

/-- PENDING or QUALIFIED. -/
theorem ChannelState.active_eq (c : ChannelState) : c.active = (decide (c = .pending) || decide (c = .qualified)) := by
  cases c <;> rfl

theorem sourceOfMarker_eq {m : Marker} (h : m = .n0 ∨ m = .n1) : sourceOfMarker m = if m = .n0 then .mk1 else .mk2 := by
  rcases h with rfl | rfl <;> rfl

theorem State.handQualification_mast {m : Marker} (h : m = .n0 ∨ m = .n1) (s : State) :
    s.handQualification m =
      if s.cfg.markers.mast.uses m then s.moveMast (s.mark.mastQualifies s.cfg.markers.mast m) else s := by
  rcases h with rfl | rfl <;> rfl

theorem State.handRelease_mast {m : Marker} (h : m = .n0 ∨ m = .n1) (s : State) : s.handRelease m = s.handFailure m := by
  rcases h with rfl | rfl <;> rfl

/-- R53, R54: an assertion starts the candidate, under MK1_AND_MK2 the one that completes the pair. -/
theorem Markers.mastAsserts_eq (set : MastSetting) (m : Marker) (pos : Int) (ms : Markers) :
    ms.mastAsserts set m pos =
      if set = .both then (if ms.mk1Active && ms.mk2Active then ms.mast.startAt pos .both else ms.mast.stay)
      else ms.mast.startAt pos (sourceOfMarker m) := by
  cases set <;> rfl

/-- Settles O55: the members by the setting and the mast source's state, the zone by its mode, the site marks, and the
channels in order. -/
theorem channelsServeTheirUsers : Obligations.ChannelsServeTheirUsers := by
  intro s
  dsimp only
  refine ⟨fun m => ⟨fun hother => ?other, fun hmember => ?member⟩, ?zone, ?site, rfl, fun hstopped => ?stopped,
    fun hrun => ?checks⟩
  case other =>
    have hunused : ¬ s.cfg.markers.mast.uses m = true := mt (MastSetting.uses_iff _ _).mp hother
    have hfail : s.handFailure m = s := if_neg hunused
    refine ⟨if_neg hunused, hfail, fun hmast => ⟨?_, ?_⟩⟩
    · rw [State.handQualification_mast hmast, if_neg hunused]
    · rw [State.handRelease_mast hmast, hfail]
  case member =>
    have hused : s.cfg.markers.mast.uses m = true := (MastSetting.uses_iff _ _).mpr hmember
    have hmast : m = .n0 ∨ m = .n1 := hmember.imp And.left And.left
    have hasserts : s.handAssertion m = s.moveMast (s.mark.mastAsserts s.cfg.markers.mast m _) := if_pos hused
    have hqualifies := (State.handQualification_mast hmast s).trans (if_pos hused)
    rw [Markers.mastAsserts_eq] at hasserts
    rw [← sourceOfMarker_eq hmast, hasserts, hqualifies, State.handRelease_mast hmast]
    refine ⟨fun hbusy => ?_, fun hidle hset => ?_, fun hidle hset => ?_, fun hbusy => ?_, fun hpending hset => ?_,
      fun hpending hset => ?_, fun hpending hset => ?_, rfl, ?_⟩
    · split
      · split
        · exact State.moveMast_startAt_of_ne hbusy _ _
        · exact State.moveMast_stay s
      · exact State.moveMast_startAt_of_ne hbusy _ _
    · rw [if_neg hset, State.moveMast_startAt_idle hidle]
    · rw [if_pos hset, Markers.mk1Active, Markers.mk2Active, ChannelState.active_eq, ChannelState.active_eq]
      split
      · exact State.moveMast_startAt_idle hidle _ _
      · exact State.moveMast_stay s
    · cases hset : s.cfg.markers.mast with
      | mk1 | mk2 | either => exact State.moveMast_qualifyAs_of_ne hbusy _
      | both =>
        simp only [Markers.mastQualifies]
        split
        · exact State.moveMast_qualifyAs_of_ne hbusy _
        · exact State.moveMast_stay s
    · rcases hset with hset | hset <;> rw [hset] <;> exact State.moveMast_qualifyAs_pending hpending _
    · rw [hset, Markers.mastQualifies, State.moveMast_qualifyAs_pending hpending, Markers.mk1Active, Markers.mk2Active,
        ChannelState.active_eq, ChannelState.active_eq]
    · rw [hset, Markers.mastQualifies]
      split
      · exact State.moveMast_qualifyAs_pending hpending _
      · exact State.moveMast_stay s
    · have hfails : s.handFailure m = s.moveMast (s.mark.mastDrops s.cfg.markers.mast) := if_pos hused
      rw [hfails]
      cases hset : s.cfg.markers.mast with
      | mk1 | mk2 | both => exact State.moveMast_drop s
      | either =>
        rw [Markers.mastDrops, Markers.mk1Active, Markers.mk2Active, ChannelState.active_eq, ChannelState.active_eq]
        by_cases hup : (decide (s.mark.channels.e0.state = .pending) || decide (s.mark.channels.e0.state = .qualified)
            || (decide (s.mark.channels.e1.state = .pending) || decide (s.mark.channels.e1.state = .qualified))) = true
        · rw [if_pos hup, if_pos ⟨rfl, hup⟩]
          exact State.moveMast_stay s
        · rw [if_neg hup, if_neg fun h => hup h.2]
          exact State.moveMast_drop s
  case zone =>
    simp only [State.handQualification, State.handRelease, State.zoneQualified, State.zoneReleased]
    cases s.cfg.markers.overlap with
    | off => exact ⟨rfl, rfl⟩
    | level => exact ⟨rfl, rfl⟩
    | toggle => exact ⟨rfl, rfl⟩
  case site => rfl
  case stopped => exact if_pos hstopped
  case checks =>
    rw [State.checkChannels, if_neg hrun]
    rfl

/-! ### A channel is replaced -/

theorem Four.set_set {α : Type} (f : Four α) (i : Ix) (x y : α) : (f.set i x).set i y = f.set i y := by cases i <;> rfl

/-- A channel replaced by another. -/
def State.putChannel (m : Marker) (d : Channel) (s : State) : State :=
  { s with mark := { s.mark with channels := s.mark.channels.set m d } }

theorem State.changeChannel_eq (m : Marker) (f : Channel → Channel) (s : State) :
    s.changeChannel m f = s.putChannel m (f (s.mark.channels.get m)) := rfl

theorem State.putChannel_putChannel (m : Marker) (c d : Channel) (s : State) :
    (s.putChannel m c).putChannel m d = s.putChannel m d := by
  simp only [State.putChannel, Four.set_set]

theorem State.putChannel_get (m : Marker) (d : Channel) (s : State) : (s.putChannel m d).mark.channels.get m = d :=
  Four.get_set_self _ _ _

/-! ### The users keep the channels -/

theorem State.moveMast_channels (step : MastStep) (s : State) : (s.moveMast step).mark.channels = s.mark.channels := by
  unfold State.moveMast State.takeMastReport
  split
  · rfl
  · simp
  · simp
  · split <;> simp

theorem State.setZone_channels (zone : Bool) (s : State) : (s.setZone zone).mark.channels = s.mark.channels := by
  unfold State.setZone
  split <;> simp

theorem State.handAssertion_channels (m : Marker) (s : State) : (s.handAssertion m).mark.channels = s.mark.channels := by
  unfold State.handAssertion
  split
  · exact State.moveMast_channels _ _
  · rfl

theorem State.handFailure_channels (m : Marker) (s : State) : (s.handFailure m).mark.channels = s.mark.channels := by
  unfold State.handFailure
  split
  · exact State.moveMast_channels _ _
  · rfl

theorem State.handQualification_channels (m : Marker) (s : State) :
    (s.handQualification m).mark.channels = s.mark.channels := by
  cases m with
  | n0 | n1 =>
    simp only [State.handQualification]
    split
    · exact State.moveMast_channels _ _
    · rfl
  | n2 =>
    simp only [State.handQualification, State.zoneQualified]
    cases s.cfg.markers.overlap with
    | off => rfl
    | level | toggle => exact State.setZone_channels _ _
  | n3 =>
    simp only [State.handQualification, State.siteQualified]
    split <;> rfl

theorem State.handRelease_channels (m : Marker) (s : State) : (s.handRelease m).mark.channels = s.mark.channels := by
  cases m with
  | n0 | n1 => exact State.handFailure_channels _ _
  | n2 =>
    simp only [State.handRelease, State.zoneReleased]
    cases s.cfg.markers.overlap with
    | off | toggle => rfl
    | level => exact State.setZone_channels _ _
  | n3 => rfl

/-! ### An accepted level (R50 to R52) -/

/-- A channel whose filter has accepted a level. -/
def Channel.accepting (level : Bool) (c : Channel) : Channel := { c with filter := { accepted := some level, due := none } }

/-- A filter that settles, or one that accepts in STOPPED, changes its channel alone. -/
theorem State.acceptMarker_quiet {s : State} {m : Marker} {level : Bool}
    (h : (s.mark.channels.get m).filter.accepted ≠ some (!level) ∨ s.run.state = .stopped) :
    s.acceptMarker m level = s.putChannel m ((s.mark.channels.get m).accepting level) := by
  rw [State.acceptMarker]
  split
  · next hbefore => exact if_pos (h.resolve_left (not_not_intro hbefore))
  · rfl

theorem State.acceptMarker_acts {s : State} {m : Marker} {level : Bool}
    (h : (s.mark.channels.get m).filter.accepted = some (!level)) (hrun : s.run.state ≠ .stopped) :
    s.acceptMarker m level =
      if level then (s.putChannel m ((s.mark.channels.get m).accepting level)).assertChannel m
      else (s.putChannel m ((s.mark.channels.get m).accepting level)).dropChannel m := by
  rw [State.acceptMarker, if_pos h]
  exact if_neg hrun

/-- R51: an accepted rise. -/
theorem State.acceptMarker_rise {s : State} {m : Marker} (h : (s.mark.channels.get m).filter.accepted = some false)
    (hrun : s.run.state ≠ .stopped) :
    s.acceptMarker m true =
      if (s.mark.channels.get m).state = .idle then
        (let u := State.handAssertion m (s.putChannel m
            { (s.mark.channels.get m).accepting true with
              state := .pending, assertedAt := s.pos, target := s.pos + (s.cfg.markers.qualify.get m : Int) })
         if s.cfg.markers.qualify.get m = 0 then
           (u.putChannel m { u.mark.channels.get m with state := .qualified }).handQualification m else u)
      else s.putChannel m ((s.mark.channels.get m).accepting true) := by
  rw [State.acceptMarker_acts h hrun, if_pos rfl, State.assertChannel]
  simp only [State.putChannel_get, State.changeChannel_eq, State.putChannel_putChannel]
  rfl

/-- R51: an accepted fall. -/
theorem State.acceptMarker_fall {s : State} {m : Marker} (h : (s.mark.channels.get m).filter.accepted = some true)
    (hrun : s.run.state ≠ .stopped) :
    s.acceptMarker m false =
      let u := s.putChannel m { (s.mark.channels.get m).accepting false with state := .idle }
      if (s.mark.channels.get m).state = .pending then u.handFailure m
      else if (s.mark.channels.get m).state = .qualified then u.handRelease m else u := by
  rw [State.acceptMarker_acts h hrun, if_neg Bool.false_ne_true, State.dropChannel]
  simp only [State.putChannel_get, State.changeChannel_eq, State.putChannel_putChannel, Channel.toIdle]
  have hstate : ((s.mark.channels.get m).accepting false).state = (s.mark.channels.get m).state := rfl
  rw [hstate]
  cases hcase : (s.mark.channels.get m).state with
  | idle =>
    have hsame : { (s.mark.channels.get m).accepting false with state := .idle } =
        (s.mark.channels.get m).accepting false := by rw [← hcase]; rfl
    rw [hsame]
    rfl
  | pending | qualified | held => rfl

/-- R51: an accepted level that is an assertion or a drop. -/
theorem State.acceptMarker_told {s : State} {m : Marker} {level : Bool}
    (h : (s.mark.channels.get m).filter.accepted = some (!level)) (hrun : s.run.state ≠ .stopped) :
    s.acceptMarker m level =
      if level then
        (if (s.mark.channels.get m).state = .idle then
          (let u := State.handAssertion m (s.putChannel m
              { (s.mark.channels.get m).accepting true with
                state := .pending, assertedAt := s.pos, target := s.pos + (s.cfg.markers.qualify.get m : Int) })
           if s.cfg.markers.qualify.get m = 0 then
             (u.putChannel m { u.mark.channels.get m with state := .qualified }).handQualification m else u)
        else s.putChannel m ((s.mark.channels.get m).accepting true))
      else
        (let u := s.putChannel m { (s.mark.channels.get m).accepting false with state := .idle }
         if (s.mark.channels.get m).state = .pending then u.handFailure m
         else if (s.mark.channels.get m).state = .qualified then u.handRelease m else u) := by
  cases level with
  | true => exact State.acceptMarker_rise h hrun
  | false => exact State.acceptMarker_fall h hrun

/-- The channel after an accepted level. -/
def Channel.acted (level : Bool) (pos : Int) (q : Nat) (c : Channel) : Channel :=
  if level then
    (if c.state = .idle then
      { c.accepting true with
        state := if q = 0 then .qualified else .pending, assertedAt := pos, target := pos + (q : Int) }
     else c.accepting true)
  else { c.accepting false with state := .idle }

theorem State.acceptMarker_channels {s : State} {m : Marker} {level : Bool}
    (h : (s.mark.channels.get m).filter.accepted = some (!level)) (hrun : s.run.state ≠ .stopped) :
    (s.acceptMarker m level).mark.channels =
      s.mark.channels.set m ((s.mark.channels.get m).acted level s.pos (s.cfg.markers.qualify.get m)) := by
  cases level with
  | true =>
    rw [State.acceptMarker_rise h hrun, Channel.acted, if_pos rfl]
    by_cases hidle : (s.mark.channels.get m).state = .idle
    · rw [if_pos hidle, if_pos hidle]
      by_cases hq : s.cfg.markers.qualify.get m = 0
      · simp only [if_pos hq, State.handQualification_channels, State.putChannel, State.handAssertion_channels,
          Four.get_set_self, Four.set_set]
      · simp only [if_neg hq, State.handAssertion_channels, State.putChannel]
    · rw [if_neg hidle, if_neg hidle]
      rfl
  | false =>
    rw [State.acceptMarker_fall h hrun, Channel.acted, if_neg Bool.false_ne_true]
    dsimp only
    split
    · exact State.handFailure_channels _ _
    · split
      · exact State.handRelease_channels _ _
      · rfl

/-- What an accepted level leaves when its command has ended. -/
theorem State.acceptMarker_settled {s : State} {m : Marker} {level : Bool}
    (h : (s.mark.channels.get m).filter.accepted = some (!level)) (hrun : s.run.state ≠ .stopped) :
    let t := (s.acceptMarker m level).settle
    t.mark.channels = s.mark.channels.set m ((s.mark.channels.get m).acted level s.pos (s.cfg.markers.qualify.get m))
      ∧ t.odo = s.odo ∧ t.expo = s.expo ∧ t.att = s.att ∧ t.cal = s.cal ∧ t.heads = s.heads ∧ t.table = s.table := by
  simp only [State.settle_frame, State.acceptMarker_frame, State.acceptMarker_channels h hrun, and_self]

/-! ### The commands of a marker input -/

theorem exec_markerDebounceExpiry_of {s : State} {m : Marker} {due : Nat}
    (h : (s.mark.channels.get m).filter.due = some due) :
    exec (.markerDebounceExpiry m) s =
      .next ((s.advanceTo due).acceptMarker m (s.pins.markers.get m)).settle := by
  rw [exec, execMarkerDebounceExpiry, h]
  rfl

theorem exec_markerInputChange (m : Marker) (s : State) :
    exec (.markerInputChange m) s =
      .next ((s.toggleMarker m).markerChanged m (!(s.pins.markers.get m))).settle := by
  rw [exec, execMarkerInputChange]
  simp only [State.toggleMarker, Four.get_set_self]
  rfl

/-- With debounce off a settled filter accepts at once. -/
theorem State.markerChanged_at_once {s : State} {m : Marker} (h : (s.mark.channels.get m).filter.accepted ≠ none)
    (hoff : s.cfg.markers.debounce.get m = false) (level : Bool) : s.markerChanged m level = s.acceptMarker m level := by
  have hcond : ((s.mark.channels.get m).filter.accepted.isSome && !(s.cfg.markers.debounce.get m)) = true := by
    rw [hoff, Option.isSome_iff_ne_none.mpr h]
    rfl
  exact if_pos hcond

theorem State.markerChanged_filtered {s : State} {m : Marker}
    (h : (s.mark.channels.get m).filter.accepted = none ∨ s.cfg.markers.debounce.get m = true) (level : Bool) :
    s.markerChanged m level = s.setFilter m ((s.mark.channels.get m).filter.change s.clock 120 level) := by
  have hcond : ¬ ((s.mark.channels.get m).filter.accepted.isSome && !(s.cfg.markers.debounce.get m)) = true := by
    rcases h with h | h <;> simp [h]
  exact if_neg hcond

/-- Settles O54: the filter, then the accepted level by its channel. -/
theorem markersAreFilteredAndAsserted : Obligations.MarkersAreFilteredAndAsserted := by
  refine ⟨fun m s => ?markers, fun s code h hrun => ?operator⟩
  case operator =>
    rw [exec, execOperatorMark, State.request_taken h _ (by rfl), State.discarded_run, if_neg hrun]
    rfl
  case markers =>
    dsimp only
    rw [exec_markerInputChange]
    refine ⟨fun hfiltered => ?_, fun hsettled hoff => ⟨fun hquiet => ?_, fun hopposite hrun => ?_⟩, fun hnone => ?_,
      fun due hdue => ?_⟩
    · rw [State.markerChanged_filtered (s := s.toggleMarker m) hfiltered]
      rfl
    · rw [State.markerChanged_at_once (s := s.toggleMarker m) hsettled hoff, State.acceptMarker_quiet]
      · rfl
      · refine hquiet.imp_left fun hsame => ?_
        change (s.mark.channels.get m).filter.accepted ≠ _
        rw [hsame]
        cases s.pins.markers.get m <;> decide
    · rw [State.markerChanged_at_once (s := s.toggleMarker m) hsettled hoff]
      exact ⟨by rw [State.acceptMarker_told (s := s.toggleMarker m) hopposite hrun]; rfl, _, rfl,
        State.acceptMarker_settled (s := s.toggleMarker m) hopposite hrun⟩
    · rw [exec, execMarkerDebounceExpiry, hnone]
      rfl
    · rw [exec_markerDebounceExpiry_of hdue]
      refine ⟨fun hquiet => ?_, fun hopposite hrun => ?_⟩
      · rw [State.acceptMarker_quiet (s := s.advanceTo due) hquiet]
        rfl
      · exact ⟨by rw [State.acceptMarker_told (s := s.advanceTo due) hopposite hrun]; rfl, _, rfl,
          State.acceptMarker_settled (s := s.advanceTo due) hopposite hrun⟩

end Sys2Proof.Machine
end

section
/-! Spans open, join and close (statement O50). -/

namespace Sys2Proof.Machine

/-! ### Closing and opening (R113, R116, R128) -/

theorem TrackState.isWire_eq (x : TrackState) : x.isWire = (decide (x = .confirmed) || decide (x = .coasting)) := by
  cases x <;> rfl

theorem inView_eq (view : Four ViewEntry) (id : Nat) :
    inView view id =
      ((view.e0.state.isWire && decide (view.e0.wireId = some id)) || (view.e1.state.isWire && decide (view.e1.wireId = some id))
        || (view.e2.state.isWire && decide (view.e2.wireId = some id))
        || (view.e3.state.isWire && decide (view.e3.wireId = some id))) := by
  simp [inView, Four.toList, Bool.or_assoc]

theorem State.closeSpan_of_none {s : State} (h : s.span.opened = none) (reason : CloseReason) (stop : Int)
    (source : Source) : s.closeSpan reason stop source = s := by
  rw [State.closeSpan, h]

theorem State.closeSpan_of_some {s : State} {r : SpanRec} (h : s.span.opened = some r) (reason : CloseReason) (stop : Int)
    (source : Source) :
    s.closeSpan reason stop source =
      { s with
        span := { s.span with opened := none, seq := s.span.seq + 1 }
        rep := s.rep.storeSpan s.pos (r.closed s.span.view reason stop source (s.span.seq + 1)) } := by
  rw [State.closeSpan, h]
  rfl

/-- R113: the line set in force after an opening. -/
theorem Groups.applyLine_eq (g : Groups) :
    g.applyLine = { g with line := g.stagedLine.getD g.line, stagedLine := none } := by
  cases h : g.stagedLine with
  | some l => simp only [Groups.applyLine, h]; rfl
  | none =>
    have hsame : { g with stagedLine := none } = g := by rw [← h]
    simp only [Groups.applyLine, h]
    exact hsame.symm

theorem Groups.lineTypeChanges_iff (g : Groups) :
    g.lineTypeChanges = true ↔ (g.stagedLine.getD g.line).wireType ≠ g.line.wireType := by
  cases h : g.stagedLine with
  | some l => simp [Groups.lineTypeChanges, h]
  | none => simp [Groups.lineTypeChanges, h]

/-- R133: the event that closes an open WEAR monitor when the wire type changes. -/
def wearClose (at_ : Int) (k : Slot) (m : Option Monitor) : List EventBody :=
  match m with
  | none => []
  | some m => [.excClose .wear k m.wireId .typeChanged m.openPos m.peak m.peakPos (max 0 (at_ - m.openPos))]

theorem closeWearEvents_eq (at_ : Int) (ms : Four Monitors) :
    closeWearEvents at_ ms =
      wearClose at_ .n0 (ms.get .n0).wear ++ wearClose at_ .n1 (ms.get .n1).wear ++ wearClose at_ .n2 (ms.get .n2).wear
        ++ wearClose at_ .n3 (ms.get .n3).wear := by
  have hone : ∀ (k : Slot) (m : Option Monitor),
      (m.map (excCloseOf .wear k .typeChanged at_)).toList = wearClose at_ k m := by
    intro k m
    cases m with
    | none => rfl
    | some m => exact congrArg (fun e => [e]) (excCloseOf_eq _ _ _ _ _)
  rw [closeWearEvents, List.filterMap_eq_flatMap_toList]
  simp only [Ix.all, List.flatMap_cons, List.flatMap_nil, List.append_nil, hone, List.append_assoc]

/-- R113, R116, R133, R183: an opening, field by field. -/
theorem State.openSpan_eq (source : Source) (r : SpanRec) (s : State) :
    s.openSpan source r =
      let said := if s.cfg.lineTypeChanges then
        (closeWearEvents s.pos s.span.monitors).foldl (fun q b => q.produce s.pos s.timeMs s.pos b) s.rep else s.rep
      { s with
        cfg := s.cfg.applyLine
        trk := if s.cfg.lineTypeChanges then { s.trk with tracks := s.trk.tracks.map fun t => { t with wear := [] } }
               else s.trk
        span := { s.span with
                  monitors := if s.cfg.lineTypeChanges then s.span.monitors.map fun m => { m with wear := none }
                              else s.span.monitors
                  opened := some (SpanRec.open_ s.run.number s.cfg.applyLine source s.cal.valid
                    (if s.cfg.lineTypeChanges then r.clearRemaining else r)) }
        rep := { said with faults := said.faults.map FaultRecord.clearSpanMark } } := by
  rw [State.openSpan]
  cases s.cfg.lineTypeChanges with
  | false => rfl
  | true =>
    simp only [if_true, State.changeWireType, State.emitAllAt_eq]
    rfl

/-! ### Joining (R125) -/

theorem SpanRec.hasWire_iff (id : Nat) (r : SpanRec) : r.hasWire id = true ↔ ∃ x ∈ r.summaries, x.wireId = id := by
  simp [SpanRec.hasWire]

theorem mergeExtremes_eq (x y : Option Extremes) :
    mergeExtremes x y =
      match x, y with
      | some a, some b =>
        some { sMin := min a.sMin b.sMin, sMax := max a.sMax b.sMax, hMin := min a.hMin b.hMin, hMax := max a.hMax b.hMax }
      | some a, none => some a
      | none, b => b := by
  cases x <;> cases y <;> rfl

theorem mergeRemaining_eq (x y : Option MinRemaining) :
    mergeRemaining x y =
      match x, y with
      | some a, some b => if b.height < a.height then some b else some a
      | some a, none => some a
      | none, b => b := by
  cases x <;> cases y <;> rfl

/-- R125: a provisional summary joins the span, field by field. -/
theorem SpanRec.joinSummary_eq (r : SpanRec) (p : Summary) :
    r.joinSummary p =
      if ∃ x ∈ r.summaries, x.wireId = p.wireId then r.changeWire p.wireId fun o => mergeSummary o p
      else if r.summaries.length < 6 then
        { r with summaries := r.summaries ++ [{ p with presentAtOpen := false, sAtOpen := none }] }
      else { r with truncated := true } := by
  rw [SpanRec.joinSummary]
  by_cases hwire : ∃ x ∈ r.summaries, x.wireId = p.wireId
  · rw [if_pos ((SpanRec.hasWire_iff _ _).mpr hwire), if_pos hwire]
  · rw [if_neg (mt (SpanRec.hasWire_iff _ _).mp hwire), if_neg hwire]
    rfl

/-- Settles O50: a close, an opening by whether the wire type changes, and the joining summary by summary. -/
theorem spansOpenJoinAndClose : Obligations.SpansOpenJoinAndClose := by
  refine ⟨fun reason stop source s => ⟨fun hnone => State.closeSpan_of_none hnone _ _ _, fun r hopen => ?closes⟩,
    fun source r s => ?opens, fun o p => ?joins⟩
  case closes =>
    rw [State.closeSpan_of_some hopen]
    simp only [SpanRec.closed, inView_eq, TrackState.isWire_eq]
  case opens =>
    have hchanges := Groups.lineTypeChanges_iff s.cfg
    rw [State.openSpan_eq]
    dsimp only
    by_cases hline : (s.cfg.stagedLine.getD s.cfg.line).wireType ≠ s.cfg.line.wireType
    · simp only [hchanges.mpr hline, if_true, if_pos hline, closeWearEvents_eq, Groups.applyLine_eq]
      rfl
    · simp only [Bool.eq_false_iff.mpr (mt hchanges.mp hline), Bool.false_eq_true, if_false, if_neg hline,
        Groups.applyLine_eq]
      rfl
  case joins =>
    intro add widest extremes lowest join joined
    have hjoin : SpanRec.joinSummary = join := by
      funext r y
      rw [SpanRec.joinSummary_eq]
      simp only [SpanRec.changeWire, mergeSummary, mergeExtremes_eq, mergeRemaining_eq]
      rfl
    rw [mergeSpans, hjoin]
    rfl

end Sys2Proof.Machine
end

section
/-! Mast candidates, the span maximum and run transitions (statement O51). -/

namespace Sys2Proof.Machine

/-! ### Candidates (R121, R123, R124) -/

theorem SpanBuilder.tooShort_iff (pos : Int) (b : SpanBuilder) :
    b.tooShort pos = true ↔ ∃ r : SpanRec, b.opened = some r ∧ pos - r.start < (r.spanMin : Int) * 1000 := by
  unfold SpanBuilder.tooShort
  cases b.opened <;> simp

theorem State.candidateQualified_measuring {s : State} {c : Candidate} (hrun : s.run.state = .measuring)
    (hc : s.span.candidate = some c) (source : Source) : s.candidateQualified source = s.settleQualified source c := by
  rw [State.candidateQualified, hrun, hc]

theorem State.candidateQualified_armed {s : State} {c : Candidate} (hrun : s.run.state = .armed)
    (hc : s.span.candidate = some c) (source : Source) :
    s.candidateQualified source = (s.settleQualified source c).startMeasuring := by
  rw [State.candidateQualified, hrun, hc]

theorem State.openSpan_moment (source : Source) (r : SpanRec) (s : State) :
    (s.openSpan source r).pos = s.pos ∧ (s.openSpan source r).timeMs = s.timeMs ∧ (s.openSpan source r).run = s.run := by
  rw [State.openSpan_eq]
  exact ⟨rfl, rfl, rfl⟩

theorem State.closeSpan_moment (reason : CloseReason) (stop : Int) (source : Source) (s : State) :
    (s.closeSpan reason stop source).pos = s.pos ∧ (s.closeSpan reason stop source).timeMs = s.timeMs ∧
      (s.closeSpan reason stop source).run = s.run := by
  rw [State.closeSpan_eq]
  exact ⟨rfl, rfl, rfl⟩

/-- R123, steps 1 to 3: the span that opens where the open one closed. -/
def State.reopened (p : SpanRec) (source : Source) (c : Candidate) (s : State) : State :=
  let closed := s.closeSpan .mast c.position source
  State.openSpan source p { closed with span := { closed.span with provisional := none, candidate := none } }

theorem State.reopened_moment (p : SpanRec) (source : Source) (c : Candidate) (s : State) :
    (s.reopened p source c).pos = s.pos ∧ (s.reopened p source c).timeMs = s.timeMs ∧
      (s.reopened p source c).run = s.run := by
  obtain ⟨hpos, htime, hrun⟩ := s.closeSpan_moment .mast c.position source
  obtain ⟨opos, otime, orun⟩ := State.openSpan_moment source p
    { s.closeSpan .mast c.position source with
      span := { (s.closeSpan .mast c.position source).span with provisional := none, candidate := none } }
  exact ⟨opos.trans hpos, otime.trans htime, orun.trans hrun⟩

/-- R123, step 4. -/
theorem State.settleQualified_eq {s : State} {p : SpanRec} (hp : s.span.provisional = some p) (source : Source)
    (c : Candidate) :
    s.settleQualified source c =
      let opened := s.reopened p source c
      { opened with
        rep := opened.rep.produce s.pos s.timeMs s.pos (.mast .qualified c.position source (some s.pos) s.closingNumber) } := by
  obtain ⟨hpos, htime, _⟩ := s.reopened_moment p source c
  rw [State.settleQualified, hp]
  change (s.reopened p source c).emit _ = _
  rw [State.emit, State.emitAt, hpos, htime]

/-- R141, at the moment and in the run that the state shares with another. -/
theorem State.startMeasuring_eq {s t : State} (hpos : t.pos = s.pos) (htime : t.timeMs = s.timeMs) (hrun : t.run = s.run) :
    t.startMeasuring =
      { t with
        span := { t.span with watchArmed := true, watchRef := s.pos }
        run := { s.run with state := .measuring, cause := some .firstMast, causeFault := none }
        rep := { t.rep.produce s.pos s.timeMs s.pos
                   (.runState s.run.state .measuring .firstMast s.run.number none none none) with
                 runCause := true } } := by
  simp only [State.startMeasuring, State.changeRun, RunCause.madeByPart, Bool.or_true, ← hpos, ← htime, ← hrun]
  rfl

theorem State.candidateFailed_of_none {s : State} (h : s.span.candidate = none) : s.candidateFailed = s := by
  rw [State.candidateFailed, h]

theorem SpanBuilder.foldBack_of_both {b : SpanBuilder} {r p : SpanRec} (hr : b.opened = some r)
    (hp : b.provisional = some p) :
    b.foldBack = { b with opened := some (mergeSpans r p), provisional := none, candidate := none } := by
  rw [SpanBuilder.foldBack, hr, hp]

theorem SpanBuilder.foldBack_of_closed {b : SpanBuilder} (h : b.opened = none) :
    b.foldBack = { b with provisional := none, candidate := none } := by
  unfold SpanBuilder.foldBack
  simp only [h]

/-- R124: the failed candidate's span joins the open span, and the candidate counts as rejected. -/
def State.rejoined (r p : SpanRec) (s : State) : State :=
  { s with
    span := { s.span with
              opened := some { mergeSpans r p with rejected := min 65535 ((mergeSpans r p).rejected + 1) }
              provisional := none, candidate := none } }

theorem State.rejoined_eq {s : State} {r p : SpanRec} (hr : s.span.opened = some r) (hp : s.span.provisional = some p) :
    { s with span := s.span.foldBack.reject } = s.rejoined r p := by
  rw [SpanBuilder.foldBack_of_both hr hp]
  rfl

theorem SpanRec.foldl_joinSummary_maximum (ps : List Summary) (r : SpanRec) :
    (ps.foldl SpanRec.joinSummary r).spanMax = r.spanMax := by
  induction ps generalizing r with
  | nil => rfl
  | cons p ps ih =>
    rw [List.foldl_cons, ih]
    unfold SpanRec.joinSummary
    split
    · rfl
    · split <;> rfl

/-- R126: joining keeps where the span maximum lies. -/
theorem mergeSpans_limit (o p : SpanRec) : (mergeSpans o p).limit = o.start + (o.spanMax : Int) * 1000 := by
  have hstart : (mergeSpans o p).start = o.start := (mergeSpans_names o p).2
  have hmax : (mergeSpans o p).spanMax = o.spanMax := SpanRec.foldl_joinSummary_maximum p.summaries _
  rw [SpanRec.limit, hstart, hmax]

theorem SpanRec.deferredEnd_eq (pos : Int) (r : SpanRec) : r.deferredEnd pos = max pos r.limit := by
  rw [SpanRec.deferredEnd]
  split <;> omega

theorem State.candidateFailed_measuring {s : State} {c : Candidate} {r p : SpanRec} (hc : s.span.candidate = some c)
    (hr : s.span.opened = some r) (hp : s.span.provisional = some p) (hrun : s.run.state = .measuring) :
    s.candidateFailed =
      if c.longDue then (s.rejoined r p).closeLong (max s.pos (r.start + (r.spanMax : Int) * 1000))
      else s.rejoined r p := by
  rw [State.candidateFailed, hc]
  dsimp only
  rw [if_pos hrun, State.rejoined_eq hr hp]
  cases c.longDue with
  | false => rfl
  | true =>
    have hend : SpanRec.deferredEnd s.pos
        { mergeSpans r p with rejected := min 65535 ((mergeSpans r p).rejected + 1) } =
          max s.pos (r.start + (r.spanMax : Int) * 1000) := by
      rw [SpanRec.deferredEnd_eq, ← mergeSpans_limit r p]
      rfl
    have hopened : s.span.foldBack.reject.opened =
        some { mergeSpans r p with rejected := min 65535 ((mergeSpans r p).rejected + 1) } := by
      rw [SpanBuilder.foldBack_of_both hr hp]
      rfl
    rw [if_pos rfl, ← hend, hopened]

/-! ### The span maximum (R126, R127) -/

theorem State.checkSpanMaximum_measuring {s : State} {r : SpanRec} (hrun : s.run.state = .measuring)
    (hr : s.span.opened = some r) :
    s.checkSpanMaximum =
      let limit := r.start + (r.spanMax : Int) * 1000
      if limit ≤ s.pos then
        match s.span.candidate with
        | none => s.closeLong limit
        | some c =>
          if limit + (s.cfg.markers.reach : Int) ≤ s.pos then
            State.closeLong (limit + (s.cfg.markers.reach : Int)) { s with span := s.span.foldBack.reject }
          else { s with span := { s.span with candidate := some { c with longDue := true } } }
      else s := by
  rw [State.checkSpanMaximum, hrun, hr]
  rfl

theorem State.checkSpanMaximum_of_closed {s : State} (h : s.span.opened = none) : s.checkSpanMaximum = s := by
  unfold State.checkSpanMaximum
  split
  · next hsome => rw [h] at hsome; cases hsome
  · rfl

theorem SpanBuilder.foldBack_eq (b : SpanBuilder) :
    b.foldBack =
      { b with
        opened := match b.opened, b.provisional with
          | some r, some p => some (mergeSpans r p)
          | some r, none => some r
          | none, _ => none
        provisional := none, candidate := none } := by
  unfold SpanBuilder.foldBack
  cases b.opened <;> cases b.provisional <;> rfl

/-- Settles O51: the reports of the mast source, the span maximum and the run transitions, case by case. -/
theorem mastCandidatesCutTheSpans : Obligations.MastCandidatesCutTheSpans := by
  intro s
  dsimp only
  refine ⟨fun at_ src => ⟨fun hquiet => ?ignoredRun, fun hacting hlong => ?asserted, fun r hacting hr hshort => ?short⟩,
    fun src => ⟨fun hidle => ?ignored, fun c p hc hp => ⟨fun hrun => ?measuring, fun hrun => ?armed⟩⟩,
    State.candidateFailed_of_none, fun c p hc hp => ⟨fun hrun hnone => ?armedFails, fun r hrun hr =>
      ⟨fun hlong => ?fails, fun hlong => ?failsLong⟩⟩,
    fun hidle => ?noMaximum, fun r hrun hr => ⟨fun hbelow => ?below, fun hover hnone => ?reached,
      fun c p hover hc hp => ⟨fun hbelow => ?deferred, fun hhard => ?hard⟩⟩, fun reason stop => ?tearDown⟩
  case ignoredRun =>
    rw [State.candidateAsserted, if_neg (mt (RunState.acting_eq_true_iff _).mp hquiet)]
  case asserted =>
    rw [State.candidateAsserted, if_pos ((RunState.acting_eq_true_iff _).mpr hacting),
      if_neg (mt (SpanBuilder.tooShort_iff _ _).mp hlong)]
    rfl
  case short =>
    rw [State.candidateAsserted, if_pos ((RunState.acting_eq_true_iff _).mpr hacting),
      if_pos ((SpanBuilder.tooShort_iff _ _).mpr ⟨r, hr, hshort⟩), hr]
    rfl
  case ignored =>
    refine State.candidateQualified_of_ignored (hidle.imp_left fun hquiet => ?_) src
    exact Bool.eq_false_iff.mpr (mt (RunState.acting_eq_true_iff _).mp hquiet)
  case measuring =>
    rw [State.candidateQualified_measuring hrun hc, State.settleQualified_eq hp]
    rfl
  case armed =>
    obtain ⟨hpos, htime, hstate⟩ := s.reopened_moment p src c
    rw [State.candidateQualified_armed hrun hc, State.settleQualified_eq hp, ← hrun]
    exact State.startMeasuring_eq hpos htime hstate
  case armedFails =>
    rw [State.candidateFailed, hc]
    dsimp only
    rw [if_neg (by rw [hrun]; decide), SpanBuilder.foldBack_of_closed hnone]
  case fails =>
    rw [State.candidateFailed_measuring hc hr hp hrun, hlong]
    rfl
  case failsLong =>
    rw [State.candidateFailed_measuring hc hr hp hrun, hlong]
    rfl
  case noMaximum => exact hidle.elim State.checkSpanMaximum_of_not_measuring State.checkSpanMaximum_of_closed
  case below =>
    rw [State.checkSpanMaximum_measuring hrun hr, if_neg (not_le.mpr hbelow)]
  case reached =>
    rw [State.checkSpanMaximum_measuring hrun hr, if_pos hover, hnone]
    rfl
  case deferred =>
    rw [State.checkSpanMaximum_measuring hrun hr, if_pos hover, hc]
    exact if_neg (not_le.mpr hbelow)
  case hard =>
    rw [State.checkSpanMaximum_measuring hrun hr, if_pos hover, hc, State.rejoined_eq hr hp]
    exact if_pos hhard
  case tearDown =>
    rw [State.tearDownSpans, SpanBuilder.foldBack_eq, State.emitAllAt_eq, closeAllEvents_eq]
    simp only [closeEvents_eq, State.closeSpan_eq]
    rfl

end Sys2Proof.Machine
end

section
/-! What a scan accumulates into its span (statement O52). -/

namespace Sys2Proof.Machine

/-! ### What a slot gives (R110, R118) -/

/-- The slot took a return, alone or shared. -/
def SlotOutcome.isHit (x : SlotOutcome) : Bool := decide (x.result = .hit) || decide (x.result = .sharedHit)

/-- The slot holds a wire that took a return or missed. -/
def SlotOutcome.gives (x : SlotOutcome) : Bool :=
  (decide (x.track.state = .confirmed) || decide (x.track.state = .coasting)) && (x.isHit || decide (x.result = .miss))

/-- What a slot that gives anything gives. -/
def SlotOutcome.given (x : SlotOutcome) : Contribution := if x.isHit then .hit else .coasted

theorem SlotOutcome.contribution_eq (x : SlotOutcome) :
    x.contribution = if x.gives then some (x.track.wireId.getD 0, x.given) else none := by
  rw [SlotOutcome.contribution, SlotOutcome.gives, SlotOutcome.given, SlotOutcome.isHit, ← TrackState.isWire_eq]
  cases x.track.state.isWire with
  | false => rfl
  | true => cases x.result <;> rfl

theorem SlotOutcome.contribution_of_gives {x : SlotOutcome} (h : x.gives = true) :
    x.contribution = some (x.track.wireId.getD 0, x.given) := by
  rw [x.contribution_eq, if_pos h]

theorem SlotOutcome.contribution_of_not_gives {x : SlotOutcome} (h : x.gives = false) : x.contribution = none := by
  rw [x.contribution_eq, if_neg (by rw [h]; decide)]

/-- A walk over the slots that leaves out those that give nothing. -/
theorem foldl_giving {α : Type} {f g : α → SlotOutcome → α} (slots : List SlotOutcome) (a : α)
    (hgives : ∀ a x, x.gives = true → f a x = g a x) (hnot : ∀ a x, x.gives = false → f a x = a) :
    slots.foldl f a = (slots.filter SlotOutcome.gives).foldl g a := by
  induction slots generalizing a with
  | nil => rfl
  | cons x xs ih =>
    cases h : x.gives with
    | false => rw [List.foldl_cons, hnot a x h, ih, List.filter_cons_of_neg (by rw [h]; decide)]
    | true => rw [List.foldl_cons, hgives a x h, ih, List.filter_cons_of_pos h, List.foldl_cons]

theorem SpanRec.takeWires_eq (pos : Int) (present : Bool) (slots : List SlotOutcome) (r : SpanRec) :
    r.takeWires pos present slots =
      (slots.filter SlotOutcome.gives).foldl
        (fun r x => r.takeWire pos present x (x.track.wireId.getD 0) x.given) r := by
  refine foldl_giving slots r (fun r x h => ?_) fun r x h => ?_
  · rw [SlotOutcome.contribution_of_gives h]
  · rw [SlotOutcome.contribution_of_not_gives h]

/-! ### A summary takes a scan (R118, R119) -/

theorem extendExtremes_eq (s h : Int) (e : Option Extremes) :
    extendExtremes s h e =
      match e with
      | none => { sMin := s, sMax := s, hMin := h, hMax := h }
      | some e => { sMin := min e.sMin s, sMax := max e.sMax s, hMin := min e.hMin h, hMax := max e.hMax h } := by
  cases e <;> rfl

theorem lowerRemaining_eq (pos : Int) (w : Option WearSample) (m : Option MinRemaining) :
    lowerRemaining pos w m =
      match w, m with
      | none, m => m
      | some v, none => some { height := v.remaining, position := pos }
      | some v, some y => if v.remaining < y.height then some { height := v.remaining, position := pos } else some y := by
  cases w <;> cases m <;> rfl

theorem Summary.take_given (pos : Int) (x : SlotOutcome) (y : Summary) :
    y.take pos x x.given =
      { y with
        lastPos := pos
        hits := if x.isHit then min 65535 (y.hits + 1) else y.hits
        coasted := if x.isHit then y.coasted else min 65535 (y.coasted + 1)
        extremes := if x.isHit then some (extendExtremes (roundDiv x.s 100) (roundDiv x.h 100) y.extremes) else y.extremes
        minRemaining := lowerRemaining pos (wearValue x.track.wear) y.minRemaining } := by
  rw [SlotOutcome.given]
  cases x.isHit <;> rfl

/-! ### Registration stagger (R122) -/

/-- The registration stagger of a slot that gives anything. -/
def SlotOutcome.stagger (x : SlotOutcome) : Registration := { value := roundDiv x.s 100, predicted := !x.isHit }

theorem registrationOf_given (x : SlotOutcome) : registrationOf x x.given = x.stagger := by
  rw [registrationOf, SlotOutcome.given, SlotOutcome.stagger]
  cases x.isHit <;> rfl

theorem SpanRec.captureOpen_eq (slots : List SlotOutcome) (r : SpanRec) :
    r.captureOpen slots =
      (slots.filter SlotOutcome.gives).foldl
        (fun r x => r.changeWire (x.track.wireId.getD 0) fun y => { y with sAtOpen := some x.stagger, presentAtOpen := true })
        r := by
  refine foldl_giving slots r (fun r x h => ?_) fun r x h => ?_
  · simp only [SlotOutcome.contribution_of_gives h, registrationOf_given]
  · rw [SlotOutcome.contribution_of_not_gives h]

theorem SpanRec.captureClose_eq (slots : List SlotOutcome) :
    SpanRec.captureClose slots =
      (slots.filter SlotOutcome.gives).foldl
        (fun r x => r.changeWire (x.track.wireId.getD 0) fun y => { y with sAtClose := some x.stagger }) := by
  funext r
  refine foldl_giving slots r (fun r x h => ?_) fun r x h => ?_
  · simp only [SlotOutcome.contribution_of_gives h, registrationOf_given]
  · rw [SlotOutcome.contribution_of_not_gives h]

/-! ### The target (R117) -/

theorem SpanBuilder.target_provisional {b : SpanBuilder} {c : Candidate} {pos : Int} (hc : b.candidate = some c)
    (hpos : c.position ≤ pos) : b.target pos = .provisional := by
  simp only [SpanBuilder.target, hc, if_pos hpos]

theorem SpanBuilder.target_behind {b : SpanBuilder} {pos : Int} (h : ∀ c : Candidate, b.candidate = some c → pos < c.position) :
    b.target pos = if b.opened.isSome then .opened else .none := by
  unfold SpanBuilder.target
  cases hc : b.candidate with
  | none => rfl
  | some c => exact if_neg (not_le.mpr (h c hc))

/-! ### The accumulation -/

/-- R117, R118: what a record takes from every scan. -/
def SpanRec.scanned (o : Outcome) (zone : Bool) (wires : Nat) (present : Bool) (r : SpanRec) : SpanRec :=
  (r.countScan o.scan zone (!zone && decide (wires < o.confirmedCount))).takeWires o.scan.position present o.slots.toList

theorem SpanBuilder.accumulate_provisional {o : Outcome} {b : SpanBuilder} {c : Candidate} {p : SpanRec} (zone : Bool)
    (wires : Nat) (hc : b.candidate = some c) (hpos : c.position ≤ o.scan.position) (hp : b.provisional = some p) :
    b.accumulate o zone wires =
      { b with
        view := viewOf o
        provisional := some (if p.scans = 0 then (p.scanned o zone wires false).captureOpen o.slots.toList
                             else p.scanned o zone wires false)
        opened := if p.scans = 0 then b.opened.map (SpanRec.captureClose o.slots.toList) else b.opened } := by
  simp only [SpanBuilder.accumulate, SpanBuilder.target_provisional hc hpos, SpanBuilder.record, SpanBuilder.changeTarget,
    hp, Option.map_some, SpanRec.takeScan, captures, Option.elim_some, firstOfLongSpan]
  by_cases hscans : p.scans = 0
  · simp only [hscans]; rfl
  · simp only [hscans]; rfl

theorem SpanBuilder.accumulate_opened {o : Outcome} {b : SpanBuilder} {r : SpanRec} (zone : Bool) (wires : Nat)
    (h : ∀ c : Candidate, b.candidate = some c → o.scan.position < c.position) (hr : b.opened = some r) :
    b.accumulate o zone wires =
      { b with
        view := viewOf o
        opened := some
          (if r.scans = 0 then
            (if r.openSource = .none then r.scanned o zone wires true
             else (r.scanned o zone wires false).captureOpen o.slots.toList)
           else r.scanned o zone wires false) } := by
  have htarget : b.target o.scan.position = .opened := by rw [SpanBuilder.target_behind h, hr]; rfl
  simp only [SpanBuilder.accumulate, htarget, SpanBuilder.changeTarget, hr, Option.map_some, SpanRec.takeScan, captures,
    firstOfLongSpan]
  by_cases hscans : r.scans = 0
  · by_cases hsource : r.openSource = .none
    · simp only [hscans, hsource]; rfl
    · simp only [hscans, hsource, ne_eq, not_false_eq_true]; rfl
  · simp only [hscans]; rfl

theorem SpanBuilder.accumulate_none {o : Outcome} {b : SpanBuilder} (zone : Bool) (wires : Nat)
    (h : ∀ c : Candidate, b.candidate = some c → o.scan.position < c.position) (hnone : b.opened = none) :
    b.accumulate o zone wires = { b with view := viewOf o } := by
  have htarget : b.target o.scan.position = .none := by rw [SpanBuilder.target_behind h, hnone]; rfl
  rw [SpanBuilder.accumulate, htarget]
  rfl

/-- Settles O52: the target is taken from the stamp, and each giving slot joins its record in slot order. -/
theorem scansAccumulateIntoTheirSpan : Obligations.ScansAccumulateIntoTheirSpan := by
  refine ⟨fun o s => rfl, fun o zone wires b => ?_⟩
  intro at_ slots wire hit giving id confirmed lowest widened taken join scanned stagger atOpen atClose seen behind
  have htaken : ∀ (x : SlotOutcome) (y : Summary), y.take at_ x x.given = taken x y := fun x y => by
    rw [Summary.take_given, extendExtremes_eq, lowerRemaining_eq]
    rfl
  have hjoin : ∀ present : Bool, join present = fun r x => r.takeWire at_ present x (id x) x.given := fun present => by
    funext r x
    simp only [join, SpanRec.takeWire, ← SpanRec.hasWire_iff, SpanRec.changeWire, htaken]
    rfl
  have hscanned : ∀ present (r : SpanRec), r.scanned o zone wires present = scanned present r := fun present r => by
    rw [SpanRec.scanned, SpanRec.takeWires_eq, ← hjoin]
    rfl
  have hopen : ∀ r : SpanRec, r.captureOpen o.slots.toList = atOpen r := fun r => SpanRec.captureOpen_eq _ r
  have hclose : SpanRec.captureClose o.slots.toList = atClose := SpanRec.captureClose_eq _
  refine ⟨fun c p hc hpos hp => ?provisional, fun r hbehind hr => ?opened, fun hbehind hnone => ?untaken⟩
  case provisional =>
    rw [SpanBuilder.accumulate_provisional zone wires hc hpos hp, hscanned, hopen, hclose]
    rfl
  case opened =>
    rw [SpanBuilder.accumulate_opened zone wires hbehind hr, hscanned, hscanned, hopen]
    rfl
  case untaken => exact SpanBuilder.accumulate_none zone wires hbehind hnone

end Sys2Proof.Machine
end

section
/-! The limit monitors and the wire-loss watch at a scan (statement O53). -/

namespace Sys2Proof.Machine

theorem State.emitEach_eq (es : List PlacedEvent) (s : State) :
    s.emitEach es = { s with rep := es.foldl (fun q e => q.produce s.pos s.timeMs e.position e.body) s.rep } := by
  induction es generalizing s with
  | nil => rfl
  | cons e es ih => exact ih (s.emitAt e.position e.body)

/-! ### The monitors of an ended slot (R133) -/

/-- The events that close the monitors of a slot, with the position that they have. -/
def placedCloses (reason : ExcReason) (at_ : Int) (slot : Slot) (m : Monitors) : List PlacedEvent :=
  [(MonitorKind.stagger, m.stagger), (.heightLow, m.heightLow), (.wear, m.wear)].filterMap fun p =>
    p.2.map fun x =>
      { position := at_
        body := .excClose p.1 slot x.wireId reason x.openPos x.peak x.peakPos (max 0 (at_ - x.openPos)) }

theorem closeEvents_placed (reason : ExcReason) (at_ : Int) (slot : Slot) (m : Monitors) :
    (closeEvents reason at_ slot m).map (fun b => ({ position := at_, body := b } : PlacedEvent)) =
      placedCloses reason at_ slot m := by
  rw [closeEvents_eq, placedCloses, List.map_filterMap]
  simp only [Option.map_map]
  rfl

theorem State.closeEndedMonitors_eq (o : Outcome) (s : State) :
    s.closeEndedMonitors o =
      { s with
        rep := (Ix.all.flatMap fun k =>
            if (o.slots.get k).ended.isSome then placedCloses .trackEnded o.scan.position k (s.span.monitors.get k) else []).foldl
          (fun q e => q.produce s.pos s.timeMs e.position e.body) s.rep
        span := { s.span with
                  monitors := Four.tabulate fun k =>
                    if (o.slots.get k).ended.isSome then .closed else s.span.monitors.get k } } := by
  have hplaced : ∀ k : Slot,
      (if (o.slots.get k).ended.isSome then closeEvents .trackEnded o.scan.position k (s.span.monitors.get k) else []).map
          (fun b => ({ position := o.scan.position, body := b } : PlacedEvent)) =
        if (o.slots.get k).ended.isSome then placedCloses .trackEnded o.scan.position k (s.span.monitors.get k) else [] := by
    intro k
    split
    · exact closeEvents_placed _ _ _ _
    · rfl
  simp only [State.closeEndedMonitors, State.emitAllAt, State.emitEach_eq, List.map_flatten, List.map_map,
    List.flatMap_def]
  simp only [Function.comp_def, hplaced]
  rfl

theorem State.closeEndedMonitors_run (o : Outcome) (s : State) : (s.closeEndedMonitors o).run = s.run := by
  rw [State.closeEndedMonitors_eq]

/-! ### One monitor (R130 to R132) -/

/-- What a value makes of one monitor, with its event. -/
def nextMonitor (kind : MonitorKind) (slot : Slot) (id : Nat) (at_ : ScanPlace) (old : Option Monitor) (v : Int)
    (opens closes : Bool) (further : Int → Bool) : Option Monitor × List PlacedEvent :=
  match old with
  | none =>
    if opens then
      (some { wireId := id, openPos := at_.stamp, peak := v, peakPos := at_.stamp },
        [{ position := at_.stamp, body := .excOpen kind slot id v }])
    else (none, [])
  | some m =>
    let y : Monitor := if further m.peak then { m with peak := v, peakPos := at_.stamp } else m
    if closes then
      (none, [{ position := at_.held
                body := .excClose kind slot y.wireId .returned y.openPos y.peak y.peakPos
                  (max 0 (at_.stamp - y.openPos)) }])
    else (some y, [])

theorem Monitors.set_get (m : Monitors) (k : MonitorKind) : m.set k (m.get k) = m := by cases k <;> rfl

/-- What a test leaves when its monitor becomes another, with its events. -/
def Testing.after (t : Testing) (k : MonitorKind) (q : Option Monitor × List PlacedEvent) : Testing :=
  { monitors := t.monitors.set k q.1, events := t.events ++ q.2
    opened := t.opened + if (t.monitors.get k).isNone && q.1.isSome then 1 else 0 }

theorem testMonitor_of_value {k : MonitorKind} {x : SlotOutcome} {v : Int} (hv : monitorValue k x = some v) (line : LineSet)
    (types : Four WireType) (zone : Bool) (slot : Slot) (at_ : ScanPlace) (t : Testing) :
    testMonitor line types zone slot at_ x t k =
      t.after k (nextMonitor k slot (x.track.wireId.getD 0) at_ (t.monitors.get k) v
        (monitorOpens line types zone k x) (monitorCloses line types k x) (furtherBeyond k v)) := by
  have hset := t.monitors.set_get k
  simp only [testMonitor, hv, Testing.after, nextMonitor, ← excCloseOf_eq]
  cases hold : t.monitors.get k with
  | none =>
    rw [hold] at hset
    cases monitorOpens line types zone k x with
    | true => rfl
    | false => simp only [Bool.false_eq_true, if_false, hset, List.append_nil, Option.isSome_none, Bool.and_false, Nat.add_zero]
  | some m =>
    cases monitorCloses line types k x with
    | true => rfl
    | false => simp only [Bool.false_eq_true, if_false, List.append_nil, Option.isNone_some, Bool.false_and, Nat.add_zero]; rfl

theorem testMonitor_of_no_value {k : MonitorKind} {x : SlotOutcome} (hv : monitorValue k x = none) (line : LineSet)
    (types : Four WireType) (zone : Bool) (slot : Slot) (at_ : ScanPlace) (t : Testing) :
    testMonitor line types zone slot at_ x t k = t := by
  rw [testMonitor, hv]

/-! ### The monitors of a slot -/

/-- What the WEAR monitor of a slot becomes: nothing changes without a wear value. -/
def nextWear (line : LineSet) (types : Four WireType) (slot : Slot) (at_ : ScanPlace) (x : SlotOutcome)
    (old : Option Monitor) : Option Monitor × List PlacedEvent :=
  match wearValue x.track.wear with
  | none => (old, [])
  | some w =>
    nextMonitor .wear slot (x.track.wireId.getD 0) at_ old w.remaining (decide (w.remaining < minRemainingOf types w))
      (decide (minRemainingOf types w + line.wearHyst ≤ w.remaining)) (furtherBeyond .wear w.remaining)

theorem minRemainingOf_eq (types : Four WireType) (w : WearSample) :
    minRemainingOf types w =
      match w.wireType with
      | 0 => types.e0.minRemaining
      | 1 => types.e1.minRemaining
      | 2 => types.e2.minRemaining
      | _ => types.e3.minRemaining := by
  rw [minRemainingOf]
  match w.wireType with
  | 0 => rfl
  | 1 => rfl
  | 2 => rfl
  | _ + 3 => rfl

theorem testMonitor_wear (line : LineSet) (types : Four WireType) (zone : Bool) (slot : Slot) (at_ : ScanPlace)
    (x : SlotOutcome) (t : Testing) :
    testMonitor line types zone slot at_ x t .wear = t.after .wear (nextWear line types slot at_ x t.monitors.wear) := by
  unfold nextWear
  cases hw : wearValue x.track.wear with
  | none =>
    rw [testMonitor_of_no_value (by rw [monitorValue, hw]; rfl), Testing.after]
    have hcount : ((t.monitors.get .wear).isNone && t.monitors.wear.isSome) = false := by
      change (t.monitors.wear.isNone && t.monitors.wear.isSome) = false
      cases t.monitors.wear <;> rfl
    simp only [hcount, List.append_nil]
    rfl
  | some w =>
    rw [testMonitor_of_value (v := w.remaining) (by rw [monitorValue, hw]; rfl), monitorOpens, monitorCloses, hw]
    rfl

theorem testSlot_eq (line : LineSet) (types : Four WireType) (zone : Bool) (slot : Slot) (at_ : ScanPlace)
    (x : SlotOutcome) (m : Monitors) :
    testSlot line types zone slot at_ x m =
      let id := x.track.wireId.getD 0
      let a := nextMonitor .stagger slot id at_ m.stagger (roundDiv x.s 100) (monitorOpens line types zone .stagger x)
        (monitorCloses line types .stagger x) (furtherBeyond .stagger (roundDiv x.s 100))
      let b := nextMonitor .heightLow slot id at_ m.heightLow (roundDiv x.h 100) (monitorOpens line types zone .heightLow x)
        (monitorCloses line types .heightLow x) (furtherBeyond .heightLow (roundDiv x.h 100))
      let c := nextWear line types slot at_ x m.wear
      { monitors := { stagger := a.1, heightLow := b.1, wear := c.1 }
        events := a.2 ++ b.2 ++ c.2
        opened := (if m.stagger.isNone && a.1.isSome then 1 else 0) + (if m.heightLow.isNone && b.1.isSome then 1 else 0)
          + (if m.wear.isNone && c.1.isSome then 1 else 0) } := by
  rw [testSlot, MonitorKind.all, List.foldl_cons, List.foldl_cons, List.foldl_cons, List.foldl_nil, testMonitor_wear,
    testMonitor_of_value (k := .stagger) (v := roundDiv x.s 100) rfl,
    testMonitor_of_value (k := .heightLow) (v := roundDiv x.h 100) rfl]
  simp only [Testing.after, List.nil_append, Nat.zero_add]
  rfl

theorem SlotOutcome.contribution_hit_iff (x : SlotOutcome) :
    x.given = .hit ∧ x.gives = true ↔
      (x.track.state = .confirmed ∨ x.track.state = .coasting) ∧ (x.result = .hit ∨ x.result = .sharedHit) := by
  have hgiven : x.given = .hit ↔ x.result = .hit ∨ x.result = .sharedHit := by
    have hhit : x.isHit = true ↔ x.result = .hit ∨ x.result = .sharedHit := by simp [SlotOutcome.isHit]
    rw [← hhit, SlotOutcome.given]
    cases x.isHit <;> decide
  have hgives : x.gives = true ↔ (x.track.state = .confirmed ∨ x.track.state = .coasting) ∧
      ((x.result = .hit ∨ x.result = .sharedHit) ∨ x.result = .miss) := by simp [SlotOutcome.gives, SlotOutcome.isHit]
  rw [hgiven, hgives]
  tauto

theorem State.testSlotMonitors_of_not_hit {o : Outcome} {k : Slot}
    (h : ¬ ((o.slots.get k).given = .hit ∧ (o.slots.get k).gives = true)) (s : State) : s.testSlotMonitors o k = s := by
  rw [State.testSlotMonitors, SlotOutcome.contribution_eq]
  cases hgives : (o.slots.get k).gives with
  | false => rfl
  | true =>
    cases hgiven : (o.slots.get k).given with
    | hit => exact absurd ⟨hgiven, hgives⟩ h
    | coasted => rfl

theorem State.testSlotMonitors_of_hit {o : Outcome} {k : Slot} (hgiven : (o.slots.get k).given = .hit)
    (hgives : (o.slots.get k).gives = true) (s : State) :
    s.testSlotMonitors o k =
      let x := o.slots.get k
      let t := testSlot s.cfg.line s.cfg.wireTypes s.mark.zone k { stamp := o.scan.position, held := s.pos } x
        (s.span.monitors.get k)
      let bump := SpanRec.changeWire (x.track.wireId.getD 0) fun y => { y with excOpened := min 65535 (y.excOpened + t.opened) }
      let beyond := s.span.beyondCandidate o.scan.position
      { s with
        rep := t.events.foldl (fun q e => q.produce s.pos s.timeMs e.position e.body) s.rep
        span := { s.span with
                  monitors := s.span.monitors.set k t.monitors
                  provisional := if beyond then s.span.provisional.map bump else s.span.provisional
                  opened := if beyond then s.span.opened else s.span.opened.map bump } } := by
  rw [State.testSlotMonitors, SlotOutcome.contribution_of_gives hgives, hgiven]
  simp only [State.emitEach_eq, SpanBuilder.changeTarget_target]
  cases s.span.beyondCandidate o.scan.position <;> rfl

/-! ### The watch (R134) -/

theorem State.watchWires_measuring {s : State} (hrun : s.run.state = .measuring) (o : Outcome) :
    s.watchWires o =
      let armed := s.span.watchArmed || o.anyConfirmed
      let ref := if o.anyConfirmed = true ∨ 1 ≤ o.confirmedCount then o.scan.position else s.span.watchRef
      if armed = true ∧ o.confirmedCount = 0 ∧ (s.cfg.line.wireLoss : Int) * 1000 < o.scan.position - ref then
        State.raise .wireLoss { qualifier := 0, number := (o.scan.position - ref) / 1000 }
          { s with span := { s.span with watchArmed := false, watchRef := ref } }
      else { s with span := { s.span with watchArmed := armed, watchRef := ref } } := by
  rw [State.watchWires, if_pos hrun]
  simp only [Bool.and_eq_true, Bool.or_eq_true, decide_eq_true_eq, and_assoc]

/-- Settles O53: each monitor of a slot that took a return is tested once, then the watch looks at the count. -/
theorem monitorsAndWireLossFollowTheScan : Obligations.MonitorsAndWireLossFollowTheScan := by
  intro o s
  dsimp only
  refine ⟨?ended, ?tested, fun k => ⟨fun hnot => ?notHit, fun hhit => ?hit⟩, fun hquiet => ?quiet,
    fun hrun => ⟨fun hkept => ?kept, fun hlost => ?lost⟩⟩
  case ended =>
    rw [State.closeEndedMonitors_eq]
    simp only [Ix.all, List.flatMap_cons, List.flatMap_nil, List.append_nil, List.append_assoc]
    rfl
  case tested =>
    rw [State.testMonitors, State.closeEndedMonitors_run]
    rfl
  case notHit => exact State.testSlotMonitors_of_not_hit (mt (SlotOutcome.contribution_hit_iff _).mp hnot) s
  case hit =>
    obtain ⟨hgiven, hgives⟩ := (SlotOutcome.contribution_hit_iff _).mpr hhit
    rw [State.testSlotMonitors_of_hit hgiven hgives]
    simp only [testSlot_eq, nextWear, minRemainingOf_eq, SpanBuilder.beyondCandidate]
    cases s.span.candidate <;> rfl
  case quiet => rw [State.watchWires, if_neg hquiet]
  case kept => rw [State.watchWires_measuring hrun]; exact if_neg hkept
  case lost => rw [State.watchWires_measuring hrun]; exact if_pos hlost

end Sys2Proof.Machine
end

section
/-! Screening and merged pairs: steps 1 to 3 of a scan (statement O47). -/

namespace Sys2Proof.Machine

/-! ### Sorting and numbering -/

/-- Elements of one key keep their order. -/
theorem sortByKey_filter_key {α : Type} (key : α → Int) (l : List α) (v : Int) :
    (sortByKey (fun x => [key x]) l).filter (fun x => decide (key x = v)) = l.filter (fun x => decide (key x = v)) := by
  have hlevel : (l.filter fun x => decide (key x = v)).Pairwise fun x y => keyLe [key x] [key y] = true := by
    refine List.pairwise_of_forall_mem_list fun x hx y hy => ?_
    rw [of_decide_eq_true (List.mem_filter.mp hx).2, of_decide_eq_true (List.mem_filter.mp hy).2]
    simp [keyLe_cons_iff]
  have hsub : (l.filter fun x => decide (key x = v)).Sublist (sortByKey (fun x => [key x]) l) := by
    rw [sortByKey_eq]
    exact List.sublist_insertionSort hlevel List.filter_sublist
  have hfiltered := hsub.filter fun x => decide (key x = v)
  rw [List.filter_filter] at hfiltered
  simp only [Bool.and_self] at hfiltered
  refine (hfiltered.eq_of_length ?_).symm
  exact (((sortByKey_perm (fun x => [key x]) l).filter _).length_eq).symm

theorem numbered_fst {α : Type} (n : Nat) (l : List α) : (numbered n l).map Prod.fst = List.range' n l.length := by
  induction l generalizing n with
  | nil => rfl
  | cons x xs ih => rw [numbered, List.map_cons, ih, List.length_cons, List.range'_succ]

theorem numbered_snd {α : Type} (n : Nat) (l : List α) : (numbered n l).map Prod.snd = l := by
  induction l generalizing n with
  | nil => rfl
  | cons x xs ih => rw [numbered, List.map_cons, ih]

/-! ### Screening (R93 to R95) -/

theorem screen_rets (t : TrackingSet) (zone : Bool) (rs : List Converted) :
    (screen t zone rs).map Indexed.ret = sortByKey (fun r : Converted => [r.s]) (rs.filter (t.keeps zone)) := by
  rw [screen, List.map_map]
  exact numbered_snd 0 _

theorem screen_length (t : TrackingSet) (zone : Bool) (rs : List Converted) :
    (screen t zone rs).length = (sortByKey (fun r : Converted => [r.s]) (rs.filter (t.keeps zone))).length := by
  rw [← screen_rets, List.length_map]

theorem screen_indices (t : TrackingSet) (zone : Bool) (rs : List Converted) :
    (screen t zone rs).map Indexed.index = List.range (screen t zone rs).length := by
  rw [screen_length, List.range_eq_range', screen, List.map_map]
  exact numbered_fst 0 _

theorem screen_lowPeak {t : TrackingSet} {zone : Bool} {rs : List Converted} {r : Indexed} (h : r ∈ screen t zone rs) :
    r.lowPeak = decide (r.ret.peak < t.accept) := by
  obtain ⟨p, -, rfl⟩ := List.mem_map.mp h
  rfl

/-- The index tells the returns apart. -/
theorem screen_index_inj {t : TrackingSet} {zone : Bool} {rs : List Converted} {q r : Indexed} (hq : q ∈ screen t zone rs)
    (hr : r ∈ screen t zone rs) (h : q.index = r.index) : q = r :=
  List.inj_on_of_nodup_map (by rw [screen_indices]; exact List.nodup_range) hq hr h

/-! ### Prediction and closeness (R92, R96) -/

theorem Track.inUse_iff (t : Track) : t.inUse = true ↔ t.state ≠ .free := by simp [Track.inUse]

theorem pairIsClose_iff (t : TrackingSet) (pos : Int) (tracks : Four Track) (j k : Slot) :
    pairIsClose t pos tracks ⟨j, k⟩ = true ↔
      (tracks.get j).state ≠ .free ∧ (tracks.get k).state ≠ .free
        ∧ (((tracks.get j).predict pos).s - ((tracks.get k).predict pos).s).natAbs ≤ t.mergeStagger * 1000
        ∧ (((tracks.get j).predict pos).h - ((tracks.get k).predict pos).h).natAbs ≤ t.mergeHeight * 1000 := by
  simp only [pairIsClose, Bool.and_eq_true, decide_eq_true_eq, Track.inUse_iff, and_assoc]

theorem pairIsClose_comm (t : TrackingSet) (pos : Int) (tracks : Four Track) (j k : Slot) :
    pairIsClose t pos tracks ⟨j, k⟩ = true ↔ pairIsClose t pos tracks ⟨k, j⟩ = true := by
  have hcomm : ∀ a b : Int, (a - b).natAbs = (b - a).natAbs := fun a b => by omega
  rw [pairIsClose_iff, pairIsClose_iff, hcomm, hcomm ((tracks.get j).predict pos).h]
  tauto

theorem mem_slotPairs (p : SlotPair) : p ∈ slotPairs ↔ p.lo.num < p.hi.num := by
  obtain ⟨lo, hi⟩ := p
  cases lo <;> cases hi <;> decide

/-- The key by which close pairs are taken. -/
def pairKey (pos : Int) (tracks : Four Track) (p : SlotPair) : List Int :=
  [(((tracks.get p.lo).predict pos).s - ((tracks.get p.hi).predict pos).s).natAbs, (p.lo.num : Int), (p.hi.num : Int)]

theorem mem_closePairs {t : TrackingSet} {pos : Int} {tracks : Four Track} {p : SlotPair} :
    p ∈ closePairs t pos tracks ↔ p.lo.num < p.hi.num ∧ pairIsClose t pos tracks p = true := by
  rw [closePairs, mem_sortByKey, List.mem_filter, mem_slotPairs]

/-! ### Forming pairs (R96) -/

/-- Partners know each other. -/
def Partners (m : Four (Option Slot)) : Prop := ∀ j k, m.get j = some k → j ≠ k ∧ m.get k = some j

/-- Two slots made partners. -/
def pairUp (m : Four (Option Slot)) (p : SlotPair) : Four (Option Slot) := (m.set p.lo (some p.hi)).set p.hi (some p.lo)

theorem get_pairUp (m : Four (Option Slot)) (p : SlotPair) (k : Slot) :
    (pairUp m p).get k = if k = p.hi then some p.lo else if k = p.lo then some p.hi else m.get k := by
  rw [pairUp, Four.get_set, Four.get_set]

theorem formPairs_cons (m : Four (Option Slot)) (p : SlotPair) (ps : List SlotPair) :
    formPairs m (p :: ps) =
      if (m.get p.lo).isSome ∨ (m.get p.hi).isSome then formPairs m ps else formPairs (pairUp m p) ps := by
  rw [formPairs, pairUp]
  simp only [Bool.or_eq_true]

theorem Partners.pairUp {m : Four (Option Slot)} (h : Partners m) {p : SlotPair} (hne : p.lo ≠ p.hi)
    (hfree : ¬ ((m.get p.lo).isSome ∨ (m.get p.hi).isSome)) : Partners (pairUp m p) := by
  obtain ⟨hlo, hhi⟩ := not_or.mp hfree
  intro j k hj
  have hold : ∀ i, m.get i = some p.lo ∨ m.get i = some p.hi → False := by
    rintro i (hi | hi)
    · exact hlo (by rw [(h i _ hi).2]; rfl)
    · exact hhi (by rw [(h i _ hi).2]; rfl)
  rw [get_pairUp] at hj ⊢
  split at hj
  · next heq =>
    cases heq
    cases hj
    exact ⟨hne.symm, by rw [if_neg hne, if_pos rfl]⟩
  · split at hj
    · next heq =>
      cases heq
      cases hj
      exact ⟨hne, if_pos rfl⟩
    · obtain ⟨hjk, hk⟩ := h j k hj
      have hkhi : k ≠ p.hi := fun heq => hold j (.inr (heq ▸ hj))
      have hklo : k ≠ p.lo := fun heq => hold j (.inl (heq ▸ hj))
      exact ⟨hjk, by rw [if_neg hkhi, if_neg hklo, hk]⟩

theorem formPairs_partners {m : Four (Option Slot)} (h : Partners m) {ps : List SlotPair} (hps : ∀ p ∈ ps, p.lo ≠ p.hi) :
    Partners (formPairs m ps) := by
  induction ps generalizing m with
  | nil => exact h
  | cons p ps ih =>
    obtain ⟨hp, hrest⟩ := List.forall_mem_cons.mp hps
    rw [formPairs_cons]
    split
    · exact ih h hrest
    · next hfree => exact ih (h.pairUp hp hfree) hrest

/-- A pair stays formed. -/
theorem formPairs_keeps {m : Four (Option Slot)} {j k : Slot} (h : m.get j = some k) (ps : List SlotPair) :
    (formPairs m ps).get j = some k := by
  induction ps generalizing m with
  | nil => exact h
  | cons p ps ih =>
    rw [formPairs_cons]
    split
    · exact ih h
    · next hfree =>
      obtain ⟨hlo, hhi⟩ := not_or.mp hfree
      refine ih ?_
      have hjhi : j ≠ p.hi := fun heq => hhi (by rw [← heq, h]; rfl)
      have hjlo : j ≠ p.lo := fun heq => hlo (by rw [← heq, h]; rfl)
      rw [get_pairUp, if_neg hjhi, if_neg hjlo, h]

/-- A formed pair was one of the list. -/
theorem mem_of_formPairs {m : Four (Option Slot)} {ps : List SlotPair} {j k : Slot}
    (h : (formPairs m ps).get j = some k) : m.get j = some k ∨ ⟨j, k⟩ ∈ ps ∨ ⟨k, j⟩ ∈ ps := by
  induction ps generalizing m with
  | nil => exact .inl h
  | cons p ps ih =>
    rw [formPairs_cons] at h
    split at h
    · exact (ih h).imp_right (Or.imp (List.mem_cons_of_mem _) (List.mem_cons_of_mem _))
    · rcases ih h with hm | hmem
      · rw [get_pairUp] at hm
        split at hm
        · next heq =>
          cases heq
          cases hm
          exact .inr (.inr List.mem_cons_self)
        · split at hm
          · next heq =>
            cases heq
            cases hm
            exact .inr (.inl List.mem_cons_self)
          · exact .inl hm
      · exact .inr (hmem.imp (List.mem_cons_of_mem _) (List.mem_cons_of_mem _))

/-- A pair that is not formed shares a slot with one that was formed before, or with one formed earlier in the order. -/
theorem formPairs_yields {le : SlotPair → SlotPair → Prop} {m : Four (Option Slot)} {ps : List SlotPair}
    (hsorted : ps.Pairwise le) {p : SlotPair} (hp : p ∈ ps) :
    (formPairs m ps).get p.lo = some p.hi ∨ ((m.get p.lo).isSome ∨ (m.get p.hi).isSome)
      ∨ ∃ q ∈ ps, (formPairs m ps).get q.lo = some q.hi ∧ le q p
          ∧ (p.lo = q.lo ∨ p.lo = q.hi ∨ p.hi = q.lo ∨ p.hi = q.hi) := by
  induction ps generalizing m with
  | nil => exact absurd hp List.not_mem_nil
  | cons x xs ih =>
    obtain ⟨hfirst, hrest⟩ := List.pairwise_cons.mp hsorted
    rw [formPairs_cons]
    split
    · next hused =>
      rcases List.mem_cons.mp hp with rfl | hp
      · exact .inr (.inl hused)
      · rcases ih hrest hp with hformed | hused | ⟨q, hq, hformed⟩
        · exact .inl hformed
        · exact .inr (.inl hused)
        · exact .inr (.inr ⟨q, List.mem_cons_of_mem _ hq, hformed⟩)
    · next hfree =>
      have hx : (formPairs (pairUp m x) xs).get x.lo = some x.hi := by
        by_cases hne : x.lo = x.hi
        · refine formPairs_keeps ?_ xs
          rw [get_pairUp, if_pos hne, hne]
        · refine formPairs_keeps ?_ xs
          rw [get_pairUp, if_neg hne, if_pos rfl]
      rcases List.mem_cons.mp hp with rfl | hp
      · exact .inl hx
      · rcases ih hrest hp with hformed | hused | ⟨q, hq, hformed⟩
        · exact .inl hformed
        · have hshare : ∀ i : Slot, ((pairUp m x).get i).isSome → (m.get i).isSome ∨ i = x.lo ∨ i = x.hi := by
            intro i hi
            rw [get_pairUp] at hi
            split at hi
            · next heq => exact .inr (.inr heq)
            · split at hi
              · next heq => exact .inr (.inl heq)
              · exact .inl hi
          have hyields : (p.lo = x.lo ∨ p.lo = x.hi ∨ p.hi = x.lo ∨ p.hi = x.hi) →
              ∃ q ∈ x :: xs, (formPairs (pairUp m x) xs).get q.lo = some q.hi ∧ le q p
                ∧ (p.lo = q.lo ∨ p.lo = q.hi ∨ p.hi = q.lo ∨ p.hi = q.hi) := fun hshared =>
            ⟨x, List.mem_cons_self, hx, hfirst p hp, hshared⟩
          rcases hused.imp (hshare _) (hshare _) with (hm | hlo | hhi) | (hm | hlo | hhi)
          · exact .inr (.inl (.inl hm))
          · exact .inr (.inr (hyields (.inl hlo)))
          · exact .inr (.inr (hyields (.inr (.inl hhi))))
          · exact .inr (.inl (.inr hm))
          · exact .inr (.inr (hyields (.inr (.inr (.inl hlo)))))
          · exact .inr (.inr (hyields (.inr (.inr (.inr hhi)))))
        · exact .inr (.inr ⟨q, List.mem_cons_of_mem _ hq, hformed⟩)

theorem mergedPairs_partners (t : TrackingSet) (pos : Int) (tracks : Four Track) : Partners (mergedPairs t pos tracks) := by
  refine formPairs_partners (fun j k h => ?_) fun p hp heq => ?_
  · rw [Four.get_const] at h
    cases h
  · have := (mem_closePairs.mp hp).1
    rw [heq] at this
    exact absurd this (lt_irrefl _)

theorem mergedPairs_close {t : TrackingSet} {pos : Int} {tracks : Four Track} {j k : Slot}
    (h : (mergedPairs t pos tracks).get j = some k) : pairIsClose t pos tracks ⟨j, k⟩ = true := by
  rcases mem_of_formPairs h with hnone | hmem | hmem
  · rw [Four.get_const] at hnone
    cases hnone
  · exact (mem_closePairs.mp hmem).2
  · exact (pairIsClose_comm t pos tracks j k).mpr (mem_closePairs.mp hmem).2

/-- R96: a close pair that is not formed yields to a formed one. -/
theorem mergedPairs_yields {t : TrackingSet} {pos : Int} {tracks : Four Track} {j k : Slot} (hlt : j.num < k.num)
    (hclose : pairIsClose t pos tracks ⟨j, k⟩ = true) (hnot : (mergedPairs t pos tracks).get j ≠ some k) :
    ∃ x y : Slot, x.num < y.num ∧ (mergedPairs t pos tracks).get x = some y ∧ (x = j ∨ x = k ∨ y = j ∨ y = k)
      ∧ keyLe (pairKey pos tracks ⟨x, y⟩) (pairKey pos tracks ⟨j, k⟩) = true := by
  have hsorted := sortByKey_pairwise (pairKey pos tracks) (slotPairs.filter (pairIsClose t pos tracks))
  have hmem : (⟨j, k⟩ : SlotPair) ∈ closePairs t pos tracks := mem_closePairs.mpr ⟨hlt, hclose⟩
  rcases formPairs_yields (m := Four.const none) hsorted hmem with hformed | hused | ⟨q, hq, hformed, hle, hshared⟩
  · exact absurd hformed hnot
  · simp at hused
  · refine ⟨q.lo, q.hi, (mem_closePairs.mp hq).1, hformed, ?_, hle⟩
    rcases hshared with h | h | h | h
    · exact .inl h.symm
    · exact .inr (.inr (.inl h.symm))
    · exact .inr (.inl h.symm)
    · exact .inr (.inr (.inr h.symm))

theorem pairKey_le_iff (pos : Int) (tracks : Four Track) (x y j k : Slot) :
    keyLe (pairKey pos tracks ⟨x, y⟩) (pairKey pos tracks ⟨j, k⟩) = true ↔
      let apart (a b : Slot) : Nat := (((tracks.get a).predict pos).s - ((tracks.get b).predict pos).s).natAbs
      apart x y < apart j k ∨ (apart x y = apart j k ∧ (x.num < j.num ∨ (x.num = j.num ∧ y.num ≤ k.num))) := by
  simp only [pairKey, keyLe_cons_iff, keyLe_nil, and_true]
  omega

end Sys2Proof.Machine
end

section
/-! Gating and assignment: step 4 of a scan (statement O47). -/

namespace Sys2Proof.Machine

/-! ### Candidates (R97, R98) -/

theorem TrackState.isWire_eq_true_iff (x : TrackState) : x.isWire = true ↔ x = .confirmed ∨ x = .coasting := by
  simp [TrackState.isWire_eq]

theorem gates_iff (t : TrackingSet) (pos : Int) (tr : Track) (r : Indexed) :
    gates t pos tr r = true ↔
      tr.state ≠ .free ∧ (r.ret.s - (tr.predict pos).s).natAbs ≤ t.staggerGate * 1000
        ∧ (r.ret.h - (tr.predict pos).h).natAbs ≤ t.heightGate * 1000
        ∧ (r.lowPeak = false ∨ tr.state = .confirmed ∨ tr.state = .coasting) := by
  simp only [gates, Bool.and_eq_true, Bool.or_eq_true, Bool.not_eq_true', decide_eq_true_eq, Track.inUse_iff,
    TrackState.isWire_eq_true_iff, and_assoc]

/-- The key by which candidates are taken. -/
def candidacyKey (c : Candidacy) : List Int := [(c.cost : Int), (c.slot.num : Int), (c.ret.index : Int)]

theorem mem_candidacies {t : TrackingSet} {pos : Int} {tracks : Four Track} {rs : List Indexed} {c : Candidacy} :
    c ∈ candidacies t pos tracks rs ↔
      c.ret ∈ rs ∧ gates t pos (tracks.get c.slot) c.ret = true ∧ c.cost = candidateCost pos (tracks.get c.slot) c.ret := by
  rw [candidacies, mem_sortByKey, List.mem_flatten]
  constructor
  · rintro ⟨l, hl, hc⟩
    obtain ⟨k, -, rfl⟩ := List.mem_map.mp hl
    obtain ⟨r, hr, rfl⟩ := List.mem_map.mp hc
    obtain ⟨hr, hgates⟩ := List.mem_filter.mp hr
    exact ⟨hr, hgates, rfl⟩
  · rintro ⟨hr, hgates, hcost⟩
    refine ⟨_, List.mem_map.mpr ⟨c.slot, Ix.mem_all _, rfl⟩, List.mem_map.mpr ⟨c.ret, List.mem_filter.mpr ⟨hr, hgates⟩, ?_⟩⟩
    rw [← hcost]

theorem candidacy_mem {t : TrackingSet} {pos : Int} {tracks : Four Track} {rs : List Indexed} {k : Slot} {r : Indexed}
    (hr : r ∈ rs) (hgates : gates t pos (tracks.get k) r = true) :
    (⟨k, r, candidateCost pos (tracks.get k) r⟩ : Candidacy) ∈ candidacies t pos tracks rs :=
  mem_candidacies.mpr ⟨hr, hgates, rfl⟩

theorem candidacies_sorted (t : TrackingSet) (pos : Int) (tracks : Four Track) (rs : List Indexed) :
    (candidacies t pos tracks rs).Pairwise fun c d => keyLe (candidacyKey c) (candidacyKey d) = true :=
  sortByKey_pairwise candidacyKey _

theorem candidacyKey_le_iff (c d : Candidacy) :
    keyLe (candidacyKey c) (candidacyKey d) = true ↔
      c.cost < d.cost ∨ (c.cost = d.cost ∧ (c.slot.num < d.slot.num ∨ (c.slot.num = d.slot.num ∧ c.ret.index ≤ d.ret.index))) := by
  simp only [candidacyKey, keyLe_cons_iff, keyLe_nil, and_true]
  omega

/-! ### Taking one candidate (R98, R99) -/

theorem tookReturn_iff (a : Four (Option Assigned)) (k : Slot) (i : Nat) :
    tookReturn a k i = true ↔ ∃ x, a.get k = some x ∧ x.ret.index = i := by
  unfold tookReturn
  cases a.get k <;> simp

theorem isAssigned_iff (a : Four (Option Assigned)) (i : Nat) :
    isAssigned a i = true ↔ ∃ k x, a.get k = some x ∧ x.ret.index = i := by
  simp only [isAssigned, Four.any_toList_iff, ← tookReturn_iff]
  rfl

theorem onlyReturnGated_iff (all : List Candidacy) (k p : Slot) (i : Nat) :
    onlyReturnGated all k p i = true ↔ ∀ c ∈ all, c.slot = k ∨ c.slot = p → c.ret.index = i := by
  rw [onlyReturnGated, List.all_eq_true]
  refine forall₂_congr fun c _ => ?_
  split
  · next h => simp [h]
  · next h => simp [h]

/-- The condition of R99 for a candidate of a slot and a partner: the partner took the return, and neither gates another. -/
def mayJoin (merged : Four (Option Slot)) (all : List Candidacy) (a : Four (Option Assigned)) (c : Candidacy) (p : Slot) :
    Prop :=
  merged.get c.slot = some p ∧ tookReturn a p c.ret.index = true ∧ onlyReturnGated all c.slot p c.ret.index = true

/-- A candidate is left when its slot is served, or its return is taken and may not be joined. -/
theorem assignOne_cases (merged : Four (Option Slot)) (all : List Candidacy) (a : Four (Option Assigned)) (c : Candidacy) :
    (assignOne merged all a c = a
        ∧ ((a.get c.slot).isSome ∨ (isAssigned a c.ret.index = true ∧ ∀ p, ¬ mayJoin merged all a c p)))
      ∨ (a.get c.slot = none ∧ isAssigned a c.ret.index = false
        ∧ assignOne merged all a c = a.set c.slot (some { ret := c.ret, shared := false, joined := false }))
      ∨ ∃ p, a.get c.slot = none ∧ mayJoin merged all a c p
        ∧ assignOne merged all a c =
            (a.set p (some { ret := c.ret, shared := true, joined := false })).set c.slot
              (some { ret := c.ret, shared := true, joined := true }) := by
  unfold assignOne
  cases hslot : a.get c.slot with
  | some x => exact .inl ⟨rfl, .inl rfl⟩
  | none =>
    cases hret : isAssigned a c.ret.index with
    | false => exact .inr (.inl ⟨rfl, rfl, rfl⟩)
    | true =>
      have hleft : (∀ p, ¬ mayJoin merged all a c p) →
          ((none : Option Assigned).isSome ∨ (true = true ∧ ∀ p, ¬ mayJoin merged all a c p)) := fun h => .inr ⟨rfl, h⟩
      cases hpartner : merged.get c.slot with
      | none => exact .inl ⟨rfl, hleft fun p h => by rw [mayJoin, hpartner] at h; cases h.1⟩
      | some p =>
        cases hjoin : tookReturn a p c.ret.index && onlyReturnGated all c.slot p c.ret.index with
        | true =>
          obtain ⟨htook, honly⟩ := (Bool.and_eq_true _ _).mp hjoin
          exact .inr (.inr ⟨p, rfl, ⟨hpartner, htook, honly⟩, by simp [hjoin]⟩)
        | false =>
          refine .inl ⟨by simp [hjoin], hleft fun q h => ?_⟩
          obtain ⟨hq, htook, honly⟩ := h
          cases hpartner.symm.trans hq
          rw [htook, honly] at hjoin
          cases hjoin

/-! ### The assignment after some candidates -/

/-- What holds of the assignment once the candidates `done` are taken; `le` is the order in which they come. -/
structure Assignment (le : Slot → Indexed → Slot → Indexed → Prop) (merged : Four (Option Slot)) (all done : List Candidacy)
    (a : Four (Option Assigned)) : Prop where
  from_ : ∀ k x, a.get k = some x → ∃ c ∈ done, c.slot = k ∧ c.ret = x.ret
  own : ∀ k x j y, j ≠ k → a.get k = some x → a.get j = some y → x.joined = false → y.ret = x.ret → y.joined = true
  joins : ∀ k x, a.get k = some x → x.joined = true → x.shared = true ∧
    ∃ p y, merged.get k = some p ∧ a.get p = some y ∧ y.joined = false ∧ y.shared = true ∧ y.ret = x.ret
      ∧ onlyReturnGated all k p x.ret.index = true ∧ le p x.ret k x.ret
  shares : ∀ k x, a.get k = some x → x.shared = true → x.joined = true ∨ ∃ j y, a.get j = some y ∧ y.joined = true ∧ y.ret = x.ret
  yields : ∀ c ∈ done, (∃ x, a.get c.slot = some x ∧ le c.slot x.ret c.slot c.ret ∧ x.ret ≠ c.ret)
    ∨ (∃ x, a.get c.slot = some x ∧ x.ret = c.ret)
    ∨ ∃ j y, j ≠ c.slot ∧ a.get j = some y ∧ y.joined = false ∧ y.ret = c.ret ∧ le j c.ret c.slot c.ret
      ∧ ¬ (merged.get c.slot = some j ∧ onlyReturnGated all c.slot j c.ret.index = true)

section
variable {le : Slot → Indexed → Slot → Indexed → Prop} {merged : Four (Option Slot)} {all done : List Candidacy}
  {a : Four (Option Assigned)} {c : Candidacy}

/-- Some track took each assigned return as its own. -/
theorem Assignment.owner (h : Assignment le merged all done a) {k : Slot} {x : Assigned} (hx : a.get k = some x) :
    ∃ j y, a.get j = some y ∧ y.joined = false ∧ y.ret = x.ret := by
  cases hjoined : x.joined with
  | false => exact ⟨k, x, hx, hjoined, rfl⟩
  | true =>
    obtain ⟨-, p, y, -, hy, hown, -, hret, -⟩ := h.joins k x hx hjoined
    exact ⟨p, y, hy, hown, hret⟩

theorem Assignment.nil : Assignment le merged all [] (Four.const none) where
  from_ k x h := by rw [Four.get_const] at h; cases h
  own k x j y _ h := by rw [Four.get_const] at h; cases h
  joins k x h := by rw [Four.get_const] at h; cases h
  shares k x h := by rw [Four.get_const] at h; cases h
  yields c hc := absurd hc List.not_mem_nil

/-- The candidate is left. -/
theorem Assignment.leave (h : Assignment le merged all done a) (hle : ∀ d ∈ done, le d.slot d.ret c.slot c.ret)
    (hinj : ∀ d ∈ done, d.ret.index = c.ret.index → d.ret = c.ret)
    (hleft : (a.get c.slot).isSome ∨ (isAssigned a c.ret.index = true ∧ ∀ p, ¬ mayJoin merged all a c p)) :
    Assignment le merged all (done ++ [c]) a where
  from_ k x hx := by
    obtain ⟨d, hd, hdx⟩ := h.from_ k x hx
    exact ⟨d, List.mem_append_left _ hd, hdx⟩
  own := h.own
  joins := h.joins
  shares := h.shares
  yields d hd := by
    rcases List.mem_append.mp hd with hd | hd
    · exact h.yields d hd
    · cases List.mem_singleton.mp hd
      cases hslot : a.get c.slot with
      | some x =>
        by_cases hret : x.ret = c.ret
        · exact .inr (.inl ⟨x, rfl, hret⟩)
        · obtain ⟨e, he, hes, her⟩ := h.from_ c.slot x hslot
          have hbefore := hle e he
          rw [hes, her] at hbefore
          exact .inl ⟨x, rfl, hbefore, hret⟩
      | none =>
        obtain ⟨htaken, hnot⟩ := hleft.resolve_left (by rw [hslot]; decide)
        obtain ⟨j', x, hx, hindex⟩ := (isAssigned_iff a _).mp htaken
        obtain ⟨j, y, hy, hown, hret⟩ := h.owner hx
        obtain ⟨e, he, hes, her⟩ := h.from_ j y hy
        have hyc : y.ret = c.ret := her ▸ hinj e he (by rw [her, hret, hindex])
        refine .inr (.inr ⟨j, y, fun heq => ?_, hy, hown, hyc, ?_, fun hjoin => hnot j ⟨hjoin.1, ?_, hjoin.2⟩⟩)
        · rw [heq, hslot] at hy
          cases hy
        · have hbefore := hle e he
          rw [her, hyc, hes] at hbefore
          exact hbefore
        · exact (tookReturn_iff a j _).mpr ⟨y, hy, by rw [hyc]⟩

/-- The candidate takes its return alone. -/
theorem Assignment.take (h : Assignment le merged all done a) (hslot : a.get c.slot = none)
    (hfree : isAssigned a c.ret.index = false) :
    Assignment le merged all (done ++ [c]) (a.set c.slot (some { ret := c.ret, shared := false, joined := false })) := by
  have hnew : ∀ k x, (a.set c.slot (some { ret := c.ret, shared := false, joined := false })).get k = some x →
      (k = c.slot ∧ x = { ret := c.ret, shared := false, joined := false }) ∨ (k ≠ c.slot ∧ a.get k = some x) := by
    intro k x hx
    rw [Four.get_set] at hx
    split at hx
    · next heq => exact .inl ⟨heq, (Option.some.inj hx).symm⟩
    · next hne => exact .inr ⟨hne, hx⟩
  have hold : ∀ {k x}, a.get k = some x →
      (a.set c.slot (some { ret := c.ret, shared := false, joined := false })).get k = some x := by
    intro k x hx
    rw [Four.get_set_ne _ (fun heq => by rw [heq, hslot] at hx; cases hx), hx]
  have hother : ∀ {k x}, a.get k = some x → x.ret ≠ c.ret := by
    intro k x hx heq
    rw [(isAssigned_iff a _).mpr ⟨k, x, hx, by rw [heq]⟩] at hfree
    cases hfree
  refine ⟨fun k x hx => ?from_, fun k x j y hjk hx hy hown hret => ?own, fun k x hx hjoined => ?joins,
    fun k x hx hshared => ?shares, fun d hd => ?yields⟩
  case from_ =>
    rcases hnew k x hx with ⟨rfl, rfl⟩ | ⟨-, hx⟩
    · exact ⟨c, List.mem_append_right _ (List.mem_singleton.mpr rfl), rfl, rfl⟩
    · obtain ⟨d, hd, hdx⟩ := h.from_ k x hx
      exact ⟨d, List.mem_append_left _ hd, hdx⟩
  case own =>
    rcases hnew k x hx with ⟨rfl, rfl⟩ | ⟨-, hx⟩ <;> rcases hnew j y hy with ⟨rfl, rfl⟩ | ⟨-, hy⟩
    · exact absurd rfl hjk
    · exact absurd hret (hother hy)
    · exact absurd hret.symm (hother hx)
    · exact h.own k x j y hjk hx hy hown hret
  case joins =>
    rcases hnew k x hx with ⟨rfl, rfl⟩ | ⟨-, hx⟩
    · cases hjoined
    · obtain ⟨hshared, p, y, hp, hy, hrest⟩ := h.joins k x hx hjoined
      exact ⟨hshared, p, y, hp, hold hy, hrest⟩
  case shares =>
    rcases hnew k x hx with ⟨rfl, rfl⟩ | ⟨-, hx⟩
    · cases hshared
    · refine (h.shares k x hx hshared).imp_right ?_
      rintro ⟨j, y, hy, hrest⟩
      exact ⟨j, y, hold hy, hrest⟩
  case yields =>
    rcases List.mem_append.mp hd with hd | hd
    · rcases h.yields d hd with ⟨x, hx, hrest⟩ | ⟨x, hx, hrest⟩ | ⟨j, y, hj, hy, hrest⟩
      · exact .inl ⟨x, hold hx, hrest⟩
      · exact .inr (.inl ⟨x, hold hx, hrest⟩)
      · exact .inr (.inr ⟨j, y, hj, hold hy, hrest⟩)
    · cases List.mem_singleton.mp hd
      exact .inr (.inl ⟨_, Four.get_set_self _ _ _, rfl⟩)

/-- The candidate joins its partner's return. -/
theorem Assignment.join (h : Assignment le merged all done a) (hpartners : Partners merged)
    (hle : ∀ d ∈ done, le d.slot d.ret c.slot c.ret) (hinj : ∀ d ∈ done, d.ret.index = c.ret.index → d.ret = c.ret)
    (hslot : a.get c.slot = none) {p : Slot} (hjoin : mayJoin merged all a c p) :
    Assignment le merged all (done ++ [c])
      ((a.set p (some { ret := c.ret, shared := true, joined := false })).set c.slot
        (some { ret := c.ret, shared := true, joined := true })) := by
  obtain ⟨hp, htook, honly⟩ := hjoin
  obtain ⟨hne, hback⟩ := hpartners c.slot p hp
  obtain ⟨y, hy, hindex⟩ := (tookReturn_iff a p _).mp htook
  obtain ⟨e, he, hes, her⟩ := h.from_ p y hy
  have hyret : y.ret = c.ret := her ▸ hinj e he (by rw [her, hindex])
  have hyown : y.joined = false := by
    by_contra hjoined
    obtain ⟨-, q, z, hq, hz, -⟩ := h.joins p y hy (by simpa using hjoined)
    cases hback.symm.trans hq
    rw [hslot] at hz
    cases hz
  have hyle : le p c.ret c.slot c.ret := by
    have hbefore := hle e he
    rw [her, hyret, hes] at hbefore
    exact hbefore
  generalize ha' : (a.set p (some { ret := c.ret, shared := true, joined := false })).set c.slot
    (some { ret := c.ret, shared := true, joined := true }) = a'
  have hself : a'.get c.slot = some { ret := c.ret, shared := true, joined := true } := by
    rw [← ha', Four.get_set_self]
  have hpartner : a'.get p = some { ret := c.ret, shared := true, joined := false } := by
    rw [← ha', Four.get_set_ne _ hne.symm, Four.get_set_self]
  have hrest : ∀ {k}, k ≠ c.slot → k ≠ p → a'.get k = a.get k := fun hk hkp => by
    rw [← ha', Four.get_set_ne _ hk, Four.get_set_ne _ hkp]
  have hold : ∀ {k x}, a.get k = some x →
      ∃ x', a'.get k = some x' ∧ x'.ret = x.ret ∧ x'.joined = x.joined ∧ (x.shared = true → x'.shared = true) := by
    intro k x hx
    by_cases hkp : k = p
    · rw [hkp, hy] at hx
      cases hx
      exact ⟨_, hkp ▸ hpartner, hyret.symm, hyown.symm, fun _ => rfl⟩
    · exact ⟨x, by rw [hrest (fun heq => by rw [heq, hslot] at hx; cases hx) hkp, hx], rfl, rfl, id⟩
  have hnew : ∀ {k x'}, a'.get k = some x' → k ≠ c.slot →
      ∃ x, a.get k = some x ∧ x.ret = x'.ret ∧ x.joined = x'.joined ∧ (x'.shared = true → x.shared = true ∨ x'.ret = c.ret) := by
    intro k x' hx hk
    by_cases hkp : k = p
    · rw [hkp, hpartner] at hx
      cases hx
      exact ⟨y, hkp ▸ hy, hyret, hyown, fun _ => .inr rfl⟩
    · rw [hrest hk hkp] at hx
      exact ⟨x', hx, rfl, rfl, .inl⟩
  refine ⟨fun k x hx => ?from_, fun k x j z hjk hx hz hown hret => ?own, fun k x hx hjoined => ?joins,
    fun k x hx hshared => ?shares, fun d hd => ?yields⟩
  case from_ =>
    by_cases hk : k = c.slot
    · rw [hk, hself] at hx
      cases hx
      exact ⟨c, List.mem_append_right _ (List.mem_singleton.mpr rfl), hk.symm, rfl⟩
    · obtain ⟨x₀, hx₀, hret, -⟩ := hnew hx hk
      obtain ⟨d, hd, hds, hdr⟩ := h.from_ k x₀ hx₀
      exact ⟨d, List.mem_append_left _ hd, hds, hdr.trans hret⟩
  case own =>
    by_cases hk : k = c.slot
    · rw [hk, hself] at hx
      cases hx
      cases hown
    · obtain ⟨x₀, hx₀, hxret, hxjoined, -⟩ := hnew hx hk
      by_cases hj : j = c.slot
      · rw [hj, hself] at hz
        cases hz
        rfl
      · obtain ⟨z₀, hz₀, hzret, hzjoined, -⟩ := hnew hz hj
        rw [← hzjoined]
        exact h.own k x₀ j z₀ hjk hx₀ hz₀ (hxjoined.trans hown) (by rw [hzret, hret, hxret])
  case joins =>
    by_cases hk : k = c.slot
    · rw [hk, hself] at hx
      cases hx
      exact ⟨rfl, p, _, hk ▸ hp, hpartner, rfl, rfl, rfl, hk ▸ honly, hk ▸ hyle⟩
    · obtain ⟨x₀, hx₀, hret, hxjoined, -⟩ := hnew hx hk
      obtain ⟨hshared, q, z, hq, hz, hzown, hzshared, hzret, honly', hle'⟩ := h.joins k x₀ hx₀ (hxjoined.trans hjoined)
      obtain ⟨z', hz', hzret', hzjoined', hzshared'⟩ := hold hz
      obtain ⟨x', hx', -, -, hxshared'⟩ := hold hx₀
      cases hx.symm.trans hx'
      exact ⟨hxshared' hshared, q, z', hq, hz', hzjoined'.trans hzown, hzshared' hzshared, by rw [hzret', hzret, hret],
        hret ▸ honly', hret ▸ hle'⟩
  case shares =>
    by_cases hk : k = c.slot
    · rw [hk, hself] at hx
      cases hx
      exact .inl rfl
    · obtain ⟨x₀, hx₀, hret, hxjoined, hxshared⟩ := hnew hx hk
      rcases hxshared hshared with hshared | hret
      · refine (h.shares k x₀ hx₀ hshared).imp hxjoined.symm.trans ?_
        rintro ⟨j, z, hz, hzjoined, hzret⟩
        obtain ⟨z', hz', hzret', hzjoined', -⟩ := hold hz
        exact ⟨j, z', hz', hzjoined'.trans hzjoined, by rw [hzret', hzret, hret]⟩
      · exact .inr ⟨c.slot, _, hself, rfl, hret.symm⟩
  case yields =>
    rcases List.mem_append.mp hd with hd | hd
    · rcases h.yields d hd with ⟨x, hx, hxle, hxne⟩ | ⟨x, hx, hxret⟩ | ⟨j, z, hj, hz, hzown, hzret, hzle, hznot⟩
      · obtain ⟨x', hx', hret, -⟩ := hold hx
        exact .inl ⟨x', hx', hret ▸ hxle, hret ▸ hxne⟩
      · obtain ⟨x', hx', hret, -⟩ := hold hx
        exact .inr (.inl ⟨x', hx', hret.trans hxret⟩)
      · obtain ⟨z', hz', hret, hjoined, -⟩ := hold hz
        exact .inr (.inr ⟨j, z', hj, hz', hjoined.trans hzown, hret.trans hzret, hzle, hznot⟩)
    · cases List.mem_singleton.mp hd
      exact .inr (.inl ⟨_, hself, rfl⟩)

theorem Assignment.step (h : Assignment le merged all done a) (hpartners : Partners merged)
    (hle : ∀ d ∈ done, le d.slot d.ret c.slot c.ret) (hinj : ∀ d ∈ done, d.ret.index = c.ret.index → d.ret = c.ret) :
    Assignment le merged all (done ++ [c]) (assignOne merged all a c) := by
  rcases assignOne_cases merged all a c with ⟨heq, hleft⟩ | ⟨hslot, hfree, heq⟩ | ⟨p, hslot, hjoin, heq⟩ <;> rw [heq]
  · exact h.leave hle hinj hleft
  · exact h.take hslot hfree
  · exact h.join hpartners hle hinj hslot hjoin

theorem Assignment.foldl {rest : List Candidacy} (h : Assignment le merged all done a) (hpartners : Partners merged)
    (hsorted : (done ++ rest).Pairwise fun d c => le d.slot d.ret c.slot c.ret)
    (hinj : ∀ d ∈ done ++ rest, ∀ c ∈ done ++ rest, d.ret.index = c.ret.index → d.ret = c.ret) :
    Assignment le merged all (done ++ rest) (rest.foldl (assignOne merged all) a) := by
  induction rest generalizing done a with
  | nil => rw [List.append_nil]; exact h
  | cons c cs ih =>
    obtain ⟨-, -, hcross⟩ := List.pairwise_append.mp hsorted
    have hstep := h.step hpartners (c := c) (fun d hd => hcross d hd c List.mem_cons_self)
      fun d hd => hinj d (List.mem_append_left _ hd) c (List.mem_append_right _ List.mem_cons_self)
    rw [List.append_cons] at hsorted hinj ⊢
    exact ih hstep hsorted hinj

end

theorem assignAll_assignment {le : Slot → Indexed → Slot → Indexed → Prop} {merged : Four (Option Slot)}
    (hpartners : Partners merged) {cs : List Candidacy} (hsorted : cs.Pairwise fun d c => le d.slot d.ret c.slot c.ret)
    (hinj : ∀ d ∈ cs, ∀ c ∈ cs, d.ret.index = c.ret.index → d.ret = c.ret) :
    Assignment le merged cs cs (assignAll merged cs) :=
  Assignment.nil.foldl (rest := cs) hpartners hsorted hinj

/-! ### The statement -/

/-- R97, R98: the order in which candidates are taken. -/
def NoLater (pos : Int) (tracks : Four Track) (j : Slot) (q : Indexed) (k : Slot) (r : Indexed) : Prop :=
  let cost (k : Slot) (r : Indexed) : Nat := candidateCost pos (tracks.get k) r
  cost j q < cost k r ∨ (cost j q = cost k r ∧ (j.num < k.num ∨ (j.num = k.num ∧ q.index ≤ r.index)))

theorem candidacies_noLater (t : TrackingSet) (pos : Int) (tracks : Four Track) (rs : List Indexed) :
    (candidacies t pos tracks rs).Pairwise fun d c => NoLater pos tracks d.slot d.ret c.slot c.ret := by
  refine (candidacies_sorted t pos tracks rs).imp_of_mem fun hd hc hle => ?_
  obtain ⟨-, -, hcostd⟩ := mem_candidacies.mp hd
  obtain ⟨-, -, hcostc⟩ := mem_candidacies.mp hc
  have hbefore := (candidacyKey_le_iff _ _).mp hle
  rw [hcostd, hcostc] at hbefore
  exact hbefore

theorem matchScan_assignment (t : TrackingSet) (zone : Bool) (tracks : Four Track) (scan : Scan) :
    Assignment (NoLater scan.position tracks) (mergedPairs t scan.position tracks)
      (candidacies t scan.position tracks (matchScan t zone tracks scan).indexed)
      (candidacies t scan.position tracks (matchScan t zone tracks scan).indexed)
      (matchScan t zone tracks scan).assigned :=
  assignAll_assignment (mergedPairs_partners _ _ _) (candidacies_noLater _ _ _ _) fun _ hd _ hc =>
    screen_index_inj (mem_candidacies.mp hd).1 (mem_candidacies.mp hc).1

theorem matchScan_mergedWith (t : TrackingSet) (zone : Bool) (tracks : Four Track) (scan : Scan) (k : Slot) :
    ((matchScan t zone tracks scan).tracks.get k).mergedWith = (mergedPairs t scan.position tracks).get k := by
  rw [matchScan, withMerged, Four.get_tabulate]

/-- What a track took is a return of the scan that the track gates. -/
theorem matchScan_assigned {t : TrackingSet} {zone : Bool} {tracks : Four Track} {scan : Scan} {k : Slot} {a : Assigned}
    (h : (matchScan t zone tracks scan).assigned.get k = some a) :
    a.ret ∈ (matchScan t zone tracks scan).indexed ∧ gates t scan.position (tracks.get k) a.ret = true := by
  obtain ⟨c, hc, rfl, hret⟩ := (matchScan_assignment t zone tracks scan).from_ k a h
  obtain ⟨hmem, hgates, -⟩ := mem_candidacies.mp hc
  exact hret ▸ ⟨hmem, hgates⟩

/-- R99, third condition, over the returns of the scan. -/
theorem onlyReturnGated_candidacies_iff {t : TrackingSet} {pos : Int} {tracks : Four Track} {rs : List Indexed} {j k : Slot}
    {i : Nat} :
    onlyReturnGated (candidacies t pos tracks rs) j k i = true ↔
      ∀ q ∈ rs, gates t pos (tracks.get j) q = true ∨ gates t pos (tracks.get k) q = true → q.index = i := by
  rw [onlyReturnGated_iff]
  constructor
  · rintro h q hq (hgates | hgates)
    · exact h _ (candidacy_mem hq hgates) (.inl rfl)
    · exact h _ (candidacy_mem hq hgates) (.inr rfl)
  · rintro h c hc hslot
    obtain ⟨hmem, hgates, -⟩ := mem_candidacies.mp hc
    refine h c.ret hmem (hslot.imp (fun heq => ?_) fun heq => ?_)
    · rw [← heq]; exact hgates
    · rw [← heq]; exact hgates

/-- Settles O47: screening sorts and numbers, pairs and candidates are taken greedily in their order. -/
theorem returnsAreAssignedToTracks : Obligations.ReturnsAreAssignedToTracks := by
  intro t zone tracks scan m rets top keeps predS predH apart close partner gated cost noLater alone
  have hassignment := matchScan_assignment t zone tracks scan
  have hpartner : ∀ k, partner k = (mergedPairs t scan.position tracks).get k :=
    matchScan_mergedWith t zone tracks scan
  have hgated : ∀ k r, gated k r ↔ gates t scan.position (tracks.get k) r = true := fun k r => (gates_iff _ _ _ _).symm
  have halone : ∀ j k r, alone j k r ↔
      onlyReturnGated (candidacies t scan.position tracks m.indexed) j k r.index = true := fun j k r => by
    simp only [alone, hgated, onlyReturnGated_candidacies_iff]
  have hrets : rets = sortByKey (fun r : Converted => [r.s]) (scan.returns.filter keeps) :=
    screen_rets t zone scan.returns
  refine ⟨?slots, ⟨?perm, ?ascending, ?stable, screen_indices t zone scan.returns, fun r hr => screen_lowPeak hr⟩,
    fun j k hjk => ?formed, fun j k hlt hclose hnot => ?unformed, fun k a ha => ?assigned,
    fun k r hr hgates hnot => ?unassigned⟩
  case slots =>
    intro k
    simp only [partner, m, matchScan, withMerged, Four.get_tabulate]
  case perm => rw [hrets]; exact sortByKey_perm _ _
  case ascending =>
    rw [hrets]
    refine (sortByKey_pairwise _ _).imp fun hle => ?_
    rw [keyLe_cons_iff] at hle
    omega
  case stable => intro v; rw [hrets]; exact sortByKey_filter_key Converted.s _ v
  case formed =>
    rw [hpartner] at hjk
    obtain ⟨hne, hback⟩ := mergedPairs_partners t scan.position tracks j k hjk
    exact ⟨hne, (hpartner k).trans hback, (pairIsClose_iff _ _ _ _ _).mp (mergedPairs_close hjk)⟩
  case unformed =>
    rw [hpartner] at hnot
    obtain ⟨x, y, hxy, hformed, hshared, hle⟩ := mergedPairs_yields hlt ((pairIsClose_iff _ _ _ _ _).mpr hclose) hnot
    exact ⟨x, y, hxy, (hpartner x).trans hformed, hshared, (pairKey_le_iff _ _ _ _ _ _).mp hle⟩
  case assigned =>
    obtain ⟨hmem, hgates⟩ := matchScan_assigned ha
    refine ⟨hmem, (hgated k a.ret).mpr hgates, fun hown j b hjk hb hindex => ?_, fun hjoined => ?_, fun hshared => ?_, ?_⟩
    · exact hassignment.own k a j b hjk ha hb hown (screen_index_inj (matchScan_assigned hb).1 hmem hindex)
    · obtain ⟨-, p, b, hp, hb, hown, -, hret, honly, hle⟩ := hassignment.joins k a ha hjoined
      exact ⟨p, b, (hpartner k).trans hp, hb, hown, hret, by rw [hret]; exact hle, (halone k p a.ret).mpr honly⟩
    · exact hassignment.shares k a ha hshared
    · rintro (hjoined | ⟨j, b, hb, hjoined, hret⟩)
      · exact (hassignment.joins k a ha hjoined).1
      · obtain ⟨-, p, x, -, hx, hown, hshared, hxret, -⟩ := hassignment.joins j b hb hjoined
        by_cases hkp : k = p
        · rw [hkp, hx] at ha
          cases ha
          exact hshared
        · exact (hassignment.joins k a ha (hassignment.own p x k a hkp hx ha hown (by rw [hxret, hret]))).1
  case unassigned =>
    rcases hassignment.yields _ (candidacy_mem hr ((hgated k r).mp hgates)) with ⟨a, ha, hle, -⟩ | ⟨a, ha, hret⟩ | ⟨j, b, hjk, hb, hown, hret, hle, hjoin⟩
    · exact .inl ⟨a, ha, hle⟩
    · exact absurd hret (hnot a ha)
    · exact .inr ⟨j, b, hjk, hb, hown, hret, hle, by rw [hpartner, halone]; exact hjoin⟩

end Sys2Proof.Machine
end

section
/-! Steps 5 and 6 of a scan: hits, ids and misses (statements O48 and O49). -/

namespace Sys2Proof.Machine

theorem Four.set_get {α : Type} (f : Four α) (i : Ix) : f.set i (f.get i) = f := by cases i <;> rfl

/-! ### A track that takes its return (R100 to R102) -/

/-- A TENTATIVE track that takes a return reaches the hits to confirm. -/
def confirmsBy (t : TrackingSet) (asg : Option Assigned) (x : Track) : Bool :=
  decide (x.state = .tentative) && asg.isSome && decide (min 65535 (x.hits + 1) = t.confirmHits)

/-- A track after step 5; `id` is the wire id that a confirmation gives. -/
def hitTrack (t : TrackingSet) (pos : Int) (a : Assigned) (id : Nat) (x : Track) : Track :=
  { x.hit pos a with
    state := if x.state = .tentative ∧ min 65535 (x.hits + 1) ≠ t.confirmHits then .tentative
             else if x.state = .free then .free else .confirmed
    coasted := if x.state = .coasting then 0 else x.coasted
    wireId := if confirmsBy t (some a) x then some id else x.wireId }

theorem hitTrack_of_not_confirms {t : TrackingSet} {a : Assigned} {x : Track} (h : confirmsBy t (some a) x = false)
    (pos : Int) (i j : Nat) : hitTrack t pos a i x = hitTrack t pos a j x := by
  simp only [hitTrack, h, Bool.false_eq_true, if_false]

/-- A track after step 5, whether it took a return or not. -/
def servedTrack (t : TrackingSet) (pos : Int) (asg : Option Assigned) (id : Nat) (x : Track) : Track :=
  asg.elim x fun a => hitTrack t pos a id x

theorem confirmsBy_none (t : TrackingSet) (x : Track) : confirmsBy t none x = false := by simp [confirmsBy]

theorem servedTrack_of_not_confirms {t : TrackingSet} {asg : Option Assigned} {x : Track} (h : confirmsBy t asg x = false)
    (pos : Int) (i j : Nat) : servedTrack t pos asg i x = servedTrack t pos asg j x := by
  cases asg with
  | none => rfl
  | some a => exact hitTrack_of_not_confirms h pos i j

/-- The event of a confirmation. -/
def confirmedEvent (asg : Four (Option Assigned)) (q : Slot × Nat) : EventBody :=
  .trackConfirmed q.1 q.2 ((asg.get q.1).elim 0 fun a => roundDiv a.ret.ret.s 100)
    ((asg.get q.1).elim 0 fun a => roundDiv a.ret.ret.h 100)

theorem Processing.afterHit_eq (t : TrackingSet) (pos : Int) (p : Processing) (k : Slot) (a : Assigned) :
    p.afterHit t.confirmHits k ((p.tracks.get k).hit pos a) =
      let x := p.tracks.get k
      let id := freeId p.tracks 4 p.nextId
      if confirmsBy t (some a) x then
        { p with
          tracks := p.tracks.set k (hitTrack t pos a id x), nextId := idAfter id
          events := p.events ++ [.trackConfirmed k id (roundDiv a.ret.ret.s 100) (roundDiv a.ret.ret.h 100)]
          confirmed := p.confirmed.set k true }
      else { p with tracks := p.tracks.set k (hitTrack t pos a id x) } := by
  dsimp only
  generalize p.tracks.get k = x
  have hstate : (x.hit pos a).state = x.state := rfl
  have hhits : (x.hit pos a).hits = min 65535 (x.hits + 1) := rfl
  unfold Processing.afterHit
  rw [hstate, hhits]
  cases hx : x.state with
  | free => simp [hitTrack, confirmsBy, hx]; rw [← hx]; rfl
  | confirmed => simp [hitTrack, confirmsBy, hx]; rw [← hx]; rfl
  | coasting => simp [hitTrack, confirmsBy, hx]; rfl
  | tentative =>
    by_cases hreached : min 65535 (x.hits + 1) = t.confirmHits
    · simp [hitTrack, confirmsBy, hx, hreached]; exact ⟨by rw [← hreached]; rfl, rfl, rfl⟩
    · simp [hitTrack, confirmsBy, hx, hreached]; rw [← hx]; rfl

/-- Step 5 for one slot. -/
theorem Processing.hitSlot_eq (t : TrackingSet) (pos : Int) (asg : Four (Option Assigned)) (p : Processing) (k : Slot) :
    p.hitSlot t pos asg k =
      let x := p.tracks.get k
      let id := freeId p.tracks 4 p.nextId
      let confirms := confirmsBy t (asg.get k) x
      { p with
        tracks := p.tracks.set k (servedTrack t pos (asg.get k) id x)
        nextId := if confirms then idAfter id else p.nextId
        events := p.events ++ (if confirms then [(k, id)] else []).map (confirmedEvent asg)
        confirmed := p.confirmed.set k (confirms || p.confirmed.get k) } := by
  dsimp only
  cases ha : asg.get k with
  | none =>
    rw [Processing.hitSlot, ha, confirmsBy_none]
    simp only [servedTrack, Option.elim_none, Bool.false_or, Four.set_get, Bool.false_eq_true, if_false, List.map_nil,
      List.append_nil]
  | some a =>
    rw [Processing.hitSlot, ha]
    dsimp only
    rw [Processing.afterHit_eq]
    dsimp only
    cases confirmsBy t (some a) (p.tracks.get k) with
    | false =>
      simp only [servedTrack, Option.elim_some, Bool.false_or, Four.set_get, Bool.false_eq_true, if_false, List.map_nil,
        List.append_nil]
    | true =>
      simp only [servedTrack, Option.elim_some, Bool.true_or, if_true, List.map_cons, List.map_nil, confirmedEvent, ha]

/-! ### The next free id (R103) -/

theorem idAfter_iterate_of_le {d n : Nat} (h : n + d ≤ 65535) : idAfter^[d] n = n + d := by
  induction d generalizing n with
  | zero => rfl
  | succ d ih =>
    rw [Function.iterate_succ_apply, idAfter, if_neg (by omega), ih (by omega)]
    omega

/-- The ids that follow an id for a while are different from it. -/
theorem idAfter_iterate_ne {d n : Nat} (hpos : 1 ≤ d) (hle : d ≤ 100) : idAfter^[d] n ≠ n := by
  by_cases hn : 65535 ≤ n
  · obtain ⟨e, rfl⟩ := Nat.exists_eq_add_of_le' hpos
    rw [Function.iterate_succ_apply, idAfter, if_pos hn, idAfter_iterate_of_le (by omega)]
    omega
  · by_cases hd : n + d ≤ 65535
    · rw [idAfter_iterate_of_le hd]
      omega
    · obtain ⟨e, he⟩ : ∃ e, d = e + 1 + (65535 - n) := ⟨d - (65535 - n) - 1, by omega⟩
      have hlast : idAfter^[65535 - n] n = 65535 := by
        rw [idAfter_iterate_of_le (by omega)]
        omega
      rw [he, Function.iterate_add_apply, hlast, Function.iterate_succ_apply, idAfter, if_pos le_rfl,
        idAfter_iterate_of_le (by omega)]
      omega

/-- R103: an id that a wire holds is skipped. -/
def skipHeld (tracks : Four Track) (n : Nat) : Nat := if idHeld tracks n then idAfter n else n

theorem freeId_eq_skipHeld (tracks : Four Track) (k n : Nat) : freeId tracks k n = (skipHeld tracks)^[k] n := by
  induction k generalizing n with
  | zero => rfl
  | succ k ih =>
    rw [freeId, Function.iterate_succ_apply, skipHeld]
    split
    · exact ih _
    · next hfree =>
      have hfixed : skipHeld tracks n = n := if_neg hfree
      exact (Function.iterate_fixed hfixed k).symm

theorem freeId_eq_iterate (tracks : Four Track) (k n : Nat) : ∃ i ≤ k, freeId tracks k n = idAfter^[i] n := by
  induction k generalizing n with
  | zero => exact ⟨0, le_rfl, rfl⟩
  | succ k ih =>
    rw [freeId]
    split
    · obtain ⟨i, hi, heq⟩ := ih (idAfter n)
      exact ⟨i + 1, by omega, by rw [heq, Function.iterate_succ_apply]⟩
    · exact ⟨0, by omega, rfl⟩

theorem freeId_congr {ts us : Four Track} {k n : Nat} (h : ∀ i < k, idHeld ts (idAfter^[i] n) = idHeld us (idAfter^[i] n)) :
    freeId ts k n = freeId us k n := by
  induction k generalizing n with
  | zero => rfl
  | succ k ih =>
    rw [freeId, freeId, ← Function.iterate_zero_apply idAfter n, h 0 (by omega), Function.iterate_zero_apply,
      ih fun i hi => by rw [← Function.iterate_succ_apply]; exact h (i + 1) (by omega)]

/-- The wire ids after a slot has changed. -/
theorem idHeld_set (ts : Four Track) (k : Slot) (x : Track) (n : Nat) :
    idHeld (ts.set k x) n = true ↔
      (x.state.isWire = true ∧ x.wireId = some n) ∨ ∃ j, j ≠ k ∧ (ts.get j).state.isWire = true ∧ (ts.get j).wireId = some n := by
  rw [idHeld_eq_true_iff]
  constructor
  · rintro ⟨j, hwire, hid⟩
    by_cases hj : j = k
    · rw [hj, Four.get_set_self] at hwire hid
      exact .inl ⟨hwire, hid⟩
    · rw [Four.get_set_ne _ hj] at hwire hid
      exact .inr ⟨j, hj, hwire, hid⟩
  · rintro (⟨hwire, hid⟩ | ⟨j, hj, hwire, hid⟩)
    · exact ⟨k, by rw [Four.get_set_self]; exact hwire, by rw [Four.get_set_self]; exact hid⟩
    · exact ⟨j, by rw [Four.get_set_ne _ hj]; exact hwire, by rw [Four.get_set_ne _ hj]; exact hid⟩

theorem idHeld_set_same {ts : Four Track} {k : Slot} {x : Track} (hwire : x.state.isWire = (ts.get k).state.isWire)
    (hid : x.wireId = (ts.get k).wireId) (n : Nat) : idHeld (ts.set k x) n = idHeld ts n := by
  rw [Bool.eq_iff_iff, idHeld_set, idHeld_eq_true_iff, hwire, hid]
  constructor
  · rintro (h | ⟨j, -, h⟩)
    exacts [⟨k, h⟩, ⟨j, h⟩]
  · rintro ⟨j, h⟩
    by_cases hj : j = k
    exacts [.inl (hj ▸ h), .inr ⟨j, hj, h⟩]

/-- The ids that a scan has given so far lie at most five places each behind the counter. -/
def IdsGiven (before : Four Track) (served : Nat) (p : Processing) : Prop :=
  ∃ given : List Nat, (∀ n, idHeld p.tracks n = true ↔ idHeld before n = true ∨ n ∈ given)
    ∧ ∀ n ∈ given, ∃ d, 1 ≤ d ∧ d ≤ 5 * served ∧ p.nextId = idAfter^[d] n

/-- So the search for a free id meets the ids of the wires before the scan alone. -/
theorem IdsGiven.freeId {before : Four Track} {served : Nat} {p : Processing} (h : IdsGiven before served p)
    (hserved : served ≤ 4) : freeId p.tracks 4 p.nextId = freeId before 4 p.nextId := by
  obtain ⟨given, hheld, hbehind⟩ := h
  refine freeId_congr fun i hi => ?_
  rw [Bool.eq_iff_iff, hheld]
  refine or_iff_left fun hmem => ?_
  obtain ⟨d, hpos, hle, hnext⟩ := hbehind _ hmem
  refine idAfter_iterate_ne (d := i + d) (n := idAfter^[i] p.nextId) (by omega) (by omega) ?_
  rw [Function.iterate_add_apply, ← hnext]

theorem IdsGiven.mono {before : Four Track} {m n : Nat} {p : Processing} (h : IdsGiven before m p) (hle : m ≤ n) :
    IdsGiven before n p := by
  obtain ⟨given, hheld, hbehind⟩ := h
  refine ⟨given, hheld, fun x hx => ?_⟩
  obtain ⟨d, hpos, hd, hnext⟩ := hbehind x hx
  exact ⟨d, hpos, by omega, hnext⟩

/-- Without a confirmation the wires and their ids stay. -/
theorem servedTrack_wire {t : TrackingSet} {asg : Option Assigned} {x : Track} (h : confirmsBy t asg x = false) (pos : Int)
    (id : Nat) : (servedTrack t pos asg id x).state.isWire = x.state.isWire
      ∧ (servedTrack t pos asg id x).wireId = x.wireId := by
  cases asg with
  | none => exact ⟨rfl, rfl⟩
  | some a =>
    refine ⟨?_, by simp only [servedTrack, Option.elim_some, hitTrack, h, Bool.false_eq_true, if_false]⟩
    simp only [confirmsBy, Option.isSome_some, Bool.and_true, Bool.and_eq_false_imp, decide_eq_true_eq,
      decide_eq_false_iff_not] at h
    rw [servedTrack, Option.elim_some, hitTrack]
    dsimp only
    cases hx : x.state with
    | tentative => rw [if_pos ⟨rfl, h hx⟩]
    | free => rfl
    | confirmed => rfl
    | coasting => rfl

theorem servedTrack_of_confirms {t : TrackingSet} {asg : Option Assigned} {x : Track} (h : confirmsBy t asg x = true)
    (pos : Int) (id : Nat) : (servedTrack t pos asg id x).state = .confirmed ∧ (servedTrack t pos asg id x).wireId = some id
      ∧ x.state = .tentative := by
  cases asg with
  | none => rw [confirmsBy_none] at h; cases h
  | some a =>
    have hwire : (hitTrack t pos a id x).wireId = some id := if_pos h
    simp only [confirmsBy, Option.isSome_some, Bool.and_true, Bool.and_eq_true, decide_eq_true_eq] at h
    obtain ⟨hstate, hhits⟩ := h
    refine ⟨?_, hwire, hstate⟩
    rw [servedTrack, Option.elim_some, hitTrack]
    dsimp only
    rw [if_neg (fun hnot => hnot.2 hhits), if_neg (by rw [hstate]; decide)]

theorem IdsGiven.hitSlot {before : Four Track} {served : Nat} {p : Processing} (h : IdsGiven before served p) (t : TrackingSet)
    (pos : Int) (asg : Four (Option Assigned)) (k : Slot) : IdsGiven before (served + 1) (p.hitSlot t pos asg k) := by
  rw [Processing.hitSlot_eq]
  dsimp only
  cases hconfirms : confirmsBy t (asg.get k) (p.tracks.get k) with
  | false =>
    obtain ⟨given, hheld, hbehind⟩ := h.mono (Nat.le_succ served)
    obtain ⟨hwire, hid⟩ := servedTrack_wire hconfirms pos (Machine.freeId p.tracks 4 p.nextId)
    exact ⟨given, fun n => by rw [idHeld_set_same hwire hid, hheld], hbehind⟩
  | true =>
    obtain ⟨given, hheld, hbehind⟩ := h
    obtain ⟨hstate, hid, hbefore⟩ := servedTrack_of_confirms hconfirms pos (Machine.freeId p.tracks 4 p.nextId)
    obtain ⟨i, hi, hfree⟩ := freeId_eq_iterate p.tracks 4 p.nextId
    refine ⟨Machine.freeId p.tracks 4 p.nextId :: given, fun n => ?_, fun n hn => ?_⟩
    · have hother : (∃ j, j ≠ k ∧ (p.tracks.get j).state.isWire = true ∧ (p.tracks.get j).wireId = some n) ↔
          ∃ j, (p.tracks.get j).state.isWire = true ∧ (p.tracks.get j).wireId = some n := by
        refine exists_congr fun j => and_iff_right_of_imp fun hj heq => ?_
        rw [heq, hbefore] at hj
        exact absurd hj.1 (by decide)
      have hnew : TrackState.confirmed.isWire = true ∧ some (Machine.freeId p.tracks 4 p.nextId) = some n ↔
          n = Machine.freeId p.tracks 4 p.nextId := by simp [TrackState.isWire, eq_comm]
      have hheldn := hheld n
      rw [idHeld_eq_true_iff] at hheldn
      dsimp only
      rw [idHeld_set, hstate, hid, hother, hnew, hheldn, List.mem_cons]
      tauto
    · dsimp only
      rw [if_pos rfl]
      rcases List.mem_cons.mp hn with rfl | hn
      · exact ⟨1, le_rfl, by omega, rfl⟩
      · obtain ⟨d, hpos, hd, hnext⟩ := hbehind n hn
        refine ⟨i + 1 + d, by omega, by omega, ?_⟩
        rw [Function.iterate_add_apply, ← hnext, Function.iterate_succ_apply', ← hfree]

/-! ### Step 5 over the slots -/

/-- The ids that the confirming slots take, in slot order, from the counter on. -/
def confirmIds (before : Four Track) (confirms : Slot → Bool) : List Slot → Nat → List (Slot × Nat)
  | [], _ => []
  | k :: ks, n =>
    (if confirms k then [(k, freeId before 4 n)] else [])
      ++ confirmIds before confirms ks (if confirms k then idAfter (freeId before 4 n) else n)

/-- The counter after them. -/
def counterAfter (before : Four Track) (confirms : Slot → Bool) : List Slot → Nat → Nat
  | [], n => n
  | k :: ks, n => counterAfter before confirms ks (if confirms k then idAfter (freeId before 4 n) else n)

/-- The id that a slot takes. -/
def idTaken (ids : List (Slot × Nat)) (k : Slot) : Nat := ((ids.find? fun p => decide (p.1 = k)).map Prod.snd).getD 0

theorem idTaken_cons (j : Slot) (i : Nat) (ids : List (Slot × Nat)) (k : Slot) :
    idTaken ((j, i) :: ids) k = if j = k then i else idTaken ids k := by
  rw [idTaken, List.find?_cons]
  by_cases h : j = k
  · rw [if_pos h, decide_eq_true h]; rfl
  · rw [if_neg h, decide_eq_false h]; rfl

/-- What step 5 makes of the slots `ks`, which it has not served before. -/
structure HitsOver (t : TrackingSet) (pos : Int) (before : Four Track) (asg : Four (Option Assigned)) (ks : List Slot)
    (p q : Processing) : Prop where
  nextId : q.nextId = counterAfter before (fun k => confirmsBy t (asg.get k) (before.get k)) ks p.nextId
  events : q.events = p.events ++
    (confirmIds before (fun k => confirmsBy t (asg.get k) (before.get k)) ks p.nextId).map (confirmedEvent asg)
  full : q.full = p.full
  ended : q.ended = p.ended
  other : ∀ k, k ∉ ks → q.tracks.get k = p.tracks.get k ∧ q.confirmed.get k = p.confirmed.get k
  tracks : ∀ k ∈ ks, q.tracks.get k = servedTrack t pos (asg.get k)
    (idTaken (confirmIds before (fun k => confirmsBy t (asg.get k) (before.get k)) ks p.nextId) k) (before.get k)
  confirmed : ∀ k ∈ ks, q.confirmed.get k = (confirmsBy t (asg.get k) (before.get k) || p.confirmed.get k)

theorem HitsOver.foldl {t : TrackingSet} {pos : Int} {before : Four Track} {asg : Four (Option Assigned)} {ks : List Slot}
    {p : Processing} {served : Nat} (hnodup : ks.Nodup) (hbefore : ∀ k ∈ ks, p.tracks.get k = before.get k)
    (hids : IdsGiven before served p) (hserved : served + ks.length ≤ 4) :
    HitsOver t pos before asg ks p (ks.foldl (Processing.hitSlot t pos asg) p) := by
  induction ks generalizing p served with
  | nil =>
    exact ⟨rfl, (List.append_nil _).symm, rfl, rfl, fun _ _ => ⟨rfl, rfl⟩, fun _ h => absurd h List.not_mem_nil,
      fun _ h => absurd h List.not_mem_nil⟩
  | cons k ks ih =>
    obtain ⟨hk, hnodup⟩ := List.nodup_cons.mp hnodup
    obtain ⟨hbeforek, hbefore⟩ := List.forall_mem_cons.mp hbefore
    rw [List.length_cons] at hserved
    have hne : ∀ {j}, j ∈ ks → j ≠ k := fun hj heq => hk (heq ▸ hj)
    have hstep := Processing.hitSlot_eq t pos asg p k
    simp only [hbeforek, hids.freeId (by omega)] at hstep
    rw [List.foldl_cons]
    have hrest := ih hnodup (p := p.hitSlot t pos asg k)
      (fun j hj => by rw [hstep]; exact (Four.get_set_ne _ (hne hj) _).trans (hbefore j hj))
      (hids.hitSlot t pos asg k) (by omega)
    rw [hstep] at hrest ⊢
    generalize hc : confirmsBy t (asg.get k) (before.get k) = c at hrest ⊢
    obtain ⟨htrack, hconfirmed⟩ := hrest.other k hk
    refine ⟨?_, ?_, hrest.full, hrest.ended, fun j hj => ?_, fun j hj => ?_, fun j hj => ?_⟩
    · rw [hrest.nextId, counterAfter, hc]
    · rw [hrest.events, confirmIds, hc, List.map_append, List.append_assoc]
    · obtain ⟨hjk, hjks⟩ := not_or.mp (mt List.mem_cons.mpr hj)
      obtain ⟨hjtrack, hjconfirmed⟩ := hrest.other j hjks
      exact ⟨hjtrack.trans (Four.get_set_ne _ hjk _), hjconfirmed.trans (Four.get_set_ne _ hjk _)⟩
    · rw [confirmIds, hc]
      rcases List.mem_cons.mp hj with rfl | hj
      · rw [htrack]
        dsimp only
        rw [Four.get_set_self]
        cases c with
        | true => rw [if_pos rfl, List.singleton_append, idTaken_cons, if_pos rfl]
        | false => exact servedTrack_of_not_confirms hc pos _ _
      · rw [hrest.tracks j hj]
        cases c with
        | true => rw [if_pos rfl, if_pos rfl, List.singleton_append, idTaken_cons, if_neg (hne hj).symm]
        | false => rfl
    · rcases List.mem_cons.mp hj with rfl | hj
      · rw [hconfirmed, hc]
        exact Four.get_set_self _ _ _
      · rw [hrest.confirmed j hj]
        dsimp only
        rw [Four.get_set_ne _ (hne hj)]

end Sys2Proof.Machine
end

section
/-! Steps 6 and 7 of a scan: misses and new tracks (statements O48 and O49). -/

namespace Sys2Proof.Machine

/-! ### Step 6 (R104, R105) -/

/-- A COASTING track that took no return has coasted too far. -/
def coastsOut (t : TrackingSet) (travel : Int) (asg : Option Assigned) (x : Track) : Bool :=
  decide (x.state = .coasting) && asg.isNone && decide (t.coastDistance < min 11000 (x.coasted + travel.toNat))

/-- A track that took no return, after step 6. -/
def missTrack (t : TrackingSet) (travel : Int) (x : Track) : Track :=
  match x.state with
  | .free => x
  | .tentative => .empty
  | .confirmed => { x.miss with state := .coasting, coasted := 0 }
  | .coasting => if t.coastDistance < min 11000 (x.coasted + travel.toNat) then .empty else x.miss.coast travel

/-- A track after step 6. -/
def leftTrack (t : TrackingSet) (travel : Int) (asg : Option Assigned) (x : Track) : Track :=
  if asg.isSome then x else missTrack t travel x

/-- The event and the ending of a track that coasted out. -/
def coastedOutEvent (k : Slot) (x : Track) : EventBody := .trackEnded k (x.wireId.getD 0) .coastedOut x.lastHit none

def coastedOutEnding (x : Track) : Ending := { wireId := x.wireId.getD 0, reason := .coastedOut }

theorem coastsOut_some (t : TrackingSet) (travel : Int) (a : Assigned) (x : Track) :
    coastsOut t travel (some a) x = false := by simp [coastsOut]

/-- Step 6 for one slot. -/
theorem Processing.missSlot_eq (t : TrackingSet) (travel : Int) (asg : Four (Option Assigned)) (p : Processing) (k : Slot) :
    p.missSlot t travel asg k =
      let x := p.tracks.get k
      { p with
        tracks := p.tracks.set k (leftTrack t travel (asg.get k) x)
        events := p.events ++ if coastsOut t travel (asg.get k) x then [coastedOutEvent k x] else []
        ended := p.ended.set k (if coastsOut t travel (asg.get k) x then some (coastedOutEnding x) else p.ended.get k) } := by
  dsimp only
  rw [Processing.missSlot]
  cases ha : asg.get k with
  | some a =>
    simp only [coastsOut_some, leftTrack, Option.isSome_some, if_true, Bool.false_eq_true, if_false, List.append_nil,
      Four.set_get]
  | none =>
    have hstate : (p.tracks.get k).miss.state = (p.tracks.get k).state := rfl
    simp only [leftTrack, Option.isSome_none, Bool.false_eq_true, if_false, missTrack, hstate]
    cases hx : (p.tracks.get k).state with
    | free => simp [coastsOut, hx, Four.set_get]
    | tentative => simp [coastsOut, hx, Four.set_get]
    | confirmed => simp [coastsOut, hx, Four.set_get]
    | coasting =>
      have hfar : ((p.tracks.get k).miss.coast travel).coasted = min 11000 ((p.tracks.get k).coasted + travel.toNat) := rfl
      simp only [hfar]
      by_cases hout : t.coastDistance < min 11000 ((p.tracks.get k).coasted + travel.toNat)
      · have hcoasts : coastsOut t travel none (p.tracks.get k) = true := by simp [coastsOut, hx, hout]
        rw [if_pos hout, if_pos hout, if_pos hcoasts, if_pos hcoasts]
        rfl
      · have hcoasts : ¬ coastsOut t travel none (p.tracks.get k) = true := by simpa [coastsOut, hx] using hout
        rw [if_neg hout, if_neg hout, if_neg hcoasts, if_neg hcoasts, List.append_nil, Four.set_get]

/-- What step 6 makes of the slots `ks`. -/
structure MissesOver (t : TrackingSet) (travel : Int) (asg : Four (Option Assigned)) (ks : List Slot) (p q : Processing) :
    Prop where
  nextId : q.nextId = p.nextId
  events : q.events = p.events ++
    (ks.filter fun k => coastsOut t travel (asg.get k) (p.tracks.get k)).map fun k => coastedOutEvent k (p.tracks.get k)
  full : q.full = p.full
  confirmed : q.confirmed = p.confirmed
  other : ∀ k, k ∉ ks → q.tracks.get k = p.tracks.get k ∧ q.ended.get k = p.ended.get k
  tracks : ∀ k ∈ ks, q.tracks.get k = leftTrack t travel (asg.get k) (p.tracks.get k)
  ended : ∀ k ∈ ks, q.ended.get k =
    if coastsOut t travel (asg.get k) (p.tracks.get k) then some (coastedOutEnding (p.tracks.get k)) else p.ended.get k

theorem MissesOver.foldl {t : TrackingSet} {travel : Int} {asg : Four (Option Assigned)} {ks : List Slot}
    (hnodup : ks.Nodup) (p : Processing) :
    MissesOver t travel asg ks p (ks.foldl (Processing.missSlot t travel asg) p) := by
  induction ks generalizing p with
  | nil =>
    exact ⟨rfl, (List.append_nil _).symm, rfl, rfl, fun _ _ => ⟨rfl, rfl⟩, fun _ h => absurd h List.not_mem_nil,
      fun _ h => absurd h List.not_mem_nil⟩
  | cons k ks ih =>
    obtain ⟨hk, hnodup⟩ := List.nodup_cons.mp hnodup
    have hne : ∀ {j}, j ∈ ks → j ≠ k := fun hj heq => hk (heq ▸ hj)
    have hrest := ih hnodup (p.missSlot t travel asg k)
    rw [List.foldl_cons]
    have hstep := Processing.missSlot_eq t travel asg p k
    dsimp only at hstep
    have hsame : ∀ j ∈ ks, (p.missSlot t travel asg k).tracks.get j = p.tracks.get j := fun j hj => by
      rw [hstep]
      exact Four.get_set_ne _ (hne hj) _
    have hkept : (ks.filter fun j => coastsOut t travel (asg.get j) ((p.missSlot t travel asg k).tracks.get j)) =
        ks.filter fun j => coastsOut t travel (asg.get j) (p.tracks.get j) :=
      List.filter_congr fun j hj => by rw [hsame j hj]
    obtain ⟨htrack, hended⟩ := hrest.other k hk
    refine ⟨?_, ?_, ?_, ?_, fun j hj => ?_, fun j hj => ?_, fun j hj => ?_⟩
    · rw [hrest.nextId, hstep]
    · rw [hrest.events, hkept, List.filter_cons]
      have hmap : ((ks.filter fun j => coastsOut t travel (asg.get j) (p.tracks.get j)).map fun j =>
            coastedOutEvent j ((p.missSlot t travel asg k).tracks.get j)) =
          (ks.filter fun j => coastsOut t travel (asg.get j) (p.tracks.get j)).map fun j =>
            coastedOutEvent j (p.tracks.get j) :=
        List.map_congr_left fun j hj => by rw [hsame j (List.mem_of_mem_filter hj)]
      rw [hmap, hstep]
      dsimp only
      cases coastsOut t travel (asg.get k) (p.tracks.get k) with
      | true => rw [if_pos rfl, if_pos rfl, List.append_assoc]; rfl
      | false => rw [if_neg (by decide), if_neg (by decide), List.append_nil]
    · rw [hrest.full, hstep]
    · rw [hrest.confirmed, hstep]
    · obtain ⟨hjk, hjks⟩ := not_or.mp (mt List.mem_cons.mpr hj)
      obtain ⟨hjtrack, hjended⟩ := hrest.other j hjks
      rw [hjtrack, hjended, hstep]
      exact ⟨Four.get_set_ne _ hjk _, Four.get_set_ne _ hjk _⟩
    · rcases List.mem_cons.mp hj with rfl | hj
      · rw [htrack, hstep]
        exact Four.get_set_self _ _ _
      · rw [hrest.tracks j hj, hsame j hj]
    · rcases List.mem_cons.mp hj with rfl | hj
      · rw [hended, hstep]
        exact Four.get_set_self _ _ _
      · rw [hrest.ended j hj, hsame j hj, hstep]
        dsimp only
        rw [Four.get_set_ne _ (hne hj)]

/-! ### Step 7 (R106, R107) -/

/-- The FREE slots, lowest first. -/
def freeSlots (tracks : Four Track) : List Slot := Ix.all.filter fun k => !(tracks.get k).inUse

theorem mem_freeSlots {tracks : Four Track} {k : Slot} : k ∈ freeSlots tracks ↔ (tracks.get k).state = .free := by
  rw [freeSlots, List.mem_filter, and_iff_right (Ix.mem_all k), Bool.not_eq_true', ← Bool.not_eq_true, Track.inUse_iff,
    not_not]

theorem freeSlots_nodup (tracks : Four Track) : (freeSlots tracks).Nodup :=
  List.Nodup.filter _ (by decide)

theorem firstFree_eq (tracks : Four Track) : firstFree tracks = (freeSlots tracks).head? := by
  rw [firstFree, freeSlots, List.head?_filter]

/-- The slot that a new track takes leaves the FREE ones. -/
theorem freeSlots_set {tracks : Four Track} {k : Slot} {ks : List Slot} (h : freeSlots tracks = k :: ks) {x : Track}
    (hx : x.state ≠ .free) : freeSlots (tracks.set k x) = ks := by
  have hnodup := freeSlots_nodup tracks
  rw [h, List.nodup_cons] at hnodup
  have hfilter : freeSlots (tracks.set k x) = (freeSlots tracks).filter fun j => decide (j ≠ k) := by
    rw [freeSlots, freeSlots, List.filter_filter]
    refine List.filter_congr fun j _ => ?_
    rw [Four.get_set]
    by_cases hj : j = k
    · rw [if_pos hj, (Track.inUse_iff x).mpr hx, decide_eq_false (not_not.mpr hj)]
      rfl
    · rw [if_neg hj, decide_eq_true hj, Bool.true_and]
  rw [hfilter, h, List.filter_cons_of_neg (by simp), List.filter_eq_self]
  exact fun j hj => decide_eq_true fun heq => hnodup.1 (heq ▸ hj)

/-- What step 7 makes of the returns `rs` in the FREE slots `ks`. -/
structure StartsOver (pos : Int) (ks : List Slot) (rs : List Indexed) (p q : Processing) : Prop where
  nextId : q.nextId = p.nextId
  events : q.events = p.events
  confirmed : q.confirmed = p.confirmed
  ended : q.ended = p.ended
  full : q.full = p.full ++ (rs.drop ks.length).map fun r => roundDiv r.ret.s 100
  other : ∀ k, k ∉ ks → q.tracks.get k = p.tracks.get k
  started : ∀ (n : Nat) (k : Slot) (r : Indexed), ks[n]? = some k → rs[n]? = some r → q.tracks.get k = newTrack pos r.ret
  unstarted : ∀ (n : Nat) (k : Slot), ks[n]? = some k → rs[n]? = none → q.tracks.get k = p.tracks.get k

theorem StartsOver.foldl (pos : Int) {ks : List Slot} {rs : List Indexed} {p : Processing}
    (hfree : freeSlots p.tracks = ks) : StartsOver pos ks rs p (rs.foldl (Processing.startTrack pos) p) := by
  induction rs generalizing ks p with
  | nil =>
    refine ⟨rfl, rfl, rfl, rfl, by simp, fun _ _ => rfl, fun n k r _ hr => ?_, fun _ _ _ _ => rfl⟩
    rw [List.getElem?_nil] at hr
    cases hr
  | cons r rs ih =>
    rw [List.foldl_cons, Processing.startTrack, firstFree_eq, hfree]
    cases ks with
    | nil =>
      have hrest := ih (p := { p with full := p.full ++ [reported r.ret.s] }) hfree
      refine ⟨hrest.nextId, hrest.events, hrest.confirmed, hrest.ended, ?_, hrest.other, fun n k q hk => ?_,
        fun n k hk => ?_⟩
      · have hfull := hrest.full
        rw [List.length_nil, List.drop_zero, List.append_assoc] at hfull
        exact hfull
      · rw [List.getElem?_nil] at hk; cases hk
      · rw [List.getElem?_nil] at hk; cases hk
    | cons k ks =>
      have hnodup := freeSlots_nodup p.tracks
      rw [hfree, List.nodup_cons] at hnodup
      obtain ⟨hk, -⟩ := hnodup
      have hset : freeSlots (p.tracks.set k (newTrack pos r.ret)) = ks :=
        freeSlots_set hfree (x := newTrack pos r.ret) (fun h => by cases h)
      have hrest := ih (p := { p with tracks := p.tracks.set k (newTrack pos r.ret) }) hset
      have hne : ∀ {n : Nat} {j : Slot}, ks[n]? = some j → j ≠ k := fun hj heq => hk (heq ▸ List.mem_of_getElem? hj)
      refine ⟨hrest.nextId, hrest.events, hrest.confirmed, hrest.ended, hrest.full, fun j hj => ?_, fun n j q hj hq => ?_,
        fun n j hj hq => ?_⟩
      · obtain ⟨hjk, hjks⟩ := not_or.mp (mt List.mem_cons.mpr hj)
        exact (hrest.other j hjks).trans (Four.get_set_ne _ hjk _)
      · cases n with
        | zero =>
          cases hj
          cases hq
          exact (hrest.other k hk).trans (Four.get_set_self _ _ _)
        | succ n => exact hrest.started n j q hj hq
      · cases n with
        | zero => cases hq
        | succ n => exact (hrest.unstarted n j hj hq).trans (Four.get_set_ne _ (hne hj) _)

/-- A slot that was FREE either stays as it was or takes a new track. -/
theorem StartsOver.cases {pos : Int} {ks : List Slot} {rs : List Indexed} {p q : Processing} (h : StartsOver pos ks rs p q)
    {k : Slot} (hk : k ∈ ks) : q.tracks.get k = p.tracks.get k ∨ ∃ r : Indexed, q.tracks.get k = newTrack pos r.ret := by
  obtain ⟨n, hn⟩ := List.mem_iff_getElem?.mp hk
  cases hr : rs[n]? with
  | none => exact .inl (h.unstarted n k hn hr)
  | some r => exact .inr ⟨r, h.started n k r hn hr⟩

end Sys2Proof.Machine
end

section
/-! Step 8 of a scan: merged distances and duplicates (statements O48 and O49). -/

namespace Sys2Proof.Machine

theorem updateMerged_get (travel : Int) (tracks : Four Track) (k : Slot) :
    (updateMerged travel tracks).get k =
      { tracks.get k with
        mergedDistance := mergedDistanceOf travel tracks (tracks.get k), previousPartner := (tracks.get k).mergedWith } := by
  rw [updateMerged, Four.get_map]

/-- R109: slot `j` ends slot `k` as its duplicate. -/
def loses (t : TrackingSet) (tracks : Four Track) (j k : Slot) : Bool :=
  decide ((tracks.get j).mergedWith = some k) && decide (j.num < k.num)
    && decide ((t.duplicateLength : Int) < (tracks.get j).mergedDistance)

theorem loses_iff (t : TrackingSet) (tracks : Four Track) (j k : Slot) :
    loses t tracks j k = true ↔
      (tracks.get j).mergedWith = some k ∧ j.num < k.num ∧ (t.duplicateLength : Int) < (tracks.get j).mergedDistance := by
  simp only [loses, Bool.and_eq_true, decide_eq_true_eq, and_assoc]

/-- The event and the ending of a duplicate. -/
def duplicateEvent (tracks : Four Track) (j k : Slot) : EventBody :=
  .trackEnded k ((tracks.get k).wireId.getD 0) .duplicate (tracks.get k).lastHit (tracks.get j).wireId

def duplicateEnding (tracks : Four Track) (k : Slot) : Ending :=
  { wireId := (tracks.get k).wireId.getD 0, reason := .duplicate }

theorem Processing.endDuplicate_of_loses {t : TrackingSet} {p : Processing} {j k : Slot}
    (h : loses t p.tracks j k = true) :
    p.endDuplicate t j =
      { p with
        tracks := (p.tracks.set k .empty).set j { p.tracks.get j with mergedDistance := 0 }
        events := p.events ++ [duplicateEvent p.tracks j k]
        ended := p.ended.set k (some (duplicateEnding p.tracks k)) } := by
  obtain ⟨hpartner, hlt, hfar⟩ := (loses_iff _ _ _ _).mp h
  rw [Processing.endDuplicate]
  dsimp only
  rw [hpartner]
  exact if_pos ⟨hlt, hfar⟩

theorem Processing.endDuplicate_of_not {t : TrackingSet} {p : Processing} {j : Slot}
    (h : ∀ k, loses t p.tracks j k = false) : p.endDuplicate t j = p := by
  rw [Processing.endDuplicate]
  dsimp only
  cases hpartner : (p.tracks.get j).mergedWith with
  | none => rfl
  | some k =>
    refine if_neg fun hfar => ?_
    have hloses := (loses_iff t p.tracks j k).mpr ⟨hpartner, hfar⟩
    rw [h k] at hloses
    cases hloses

theorem loses_congr {t : TrackingSet} {ts us : Four Track} {j : Slot} (h : ts.get j = us.get j) (k : Slot) :
    loses t ts j k = loses t us j k := by
  rw [loses, loses, h]

/-- What step 8 makes of the slots `done`, from the tracks with their merged distances. -/
structure DuplicatesOver (t : TrackingSet) (done : List Slot) (p q : Processing) : Prop where
  nextId : q.nextId = p.nextId
  full : q.full = p.full
  confirmed : q.confirmed = p.confirmed
  events : q.events = p.events ++
    done.flatMap fun j => (Ix.all.filter (loses t p.tracks j)).map (duplicateEvent p.tracks j)
  lost : ∀ j ∈ done, ∀ k, loses t p.tracks j k = true →
    q.tracks.get k = .empty ∧ q.ended.get k = some (duplicateEnding p.tracks k)
  won : ∀ j ∈ done, ∀ k, loses t p.tracks j k = true → q.tracks.get j = { p.tracks.get j with mergedDistance := 0 }
  kept : ∀ i, (∀ j ∈ done, loses t p.tracks j i = false) → (i ∉ done ∨ ∀ k, loses t p.tracks i k = false) →
    q.tracks.get i = p.tracks.get i
  unended : ∀ i, (∀ j ∈ done, loses t p.tracks j i = false) → q.ended.get i = p.ended.get i

theorem filter_all_singleton {f : Slot → Bool} {k : Slot} (h : ∀ i, f i = decide (i = k)) : Ix.all.filter f = [k] := by
  rw [funext h]
  cases k <;> decide

section
variable {t : TrackingSet} {done : List Slot} {p q : Processing}

theorem DuplicatesOver.nil : DuplicatesOver t [] p p :=
  ⟨rfl, rfl, rfl, (List.append_nil _).symm, fun _ h => absurd h List.not_mem_nil, fun _ h => absurd h List.not_mem_nil,
    fun _ _ _ => rfl, fun _ _ => rfl⟩

/-- A slot that ends no other. -/
theorem DuplicatesOver.skip (h : DuplicatesOver t done p q) {j : Slot} (hnone : ∀ k, loses t p.tracks j k = false) :
    DuplicatesOver t (done ++ [j]) p q := by
  have hold : ∀ {i k}, i ∈ done ++ [j] → loses t p.tracks i k = true → i ∈ done := by
    intro i k hi hloses
    refine (List.mem_append.mp hi).resolve_right fun hlast => ?_
    rw [List.mem_singleton.mp hlast, hnone k] at hloses
    cases hloses
  have hempty : Ix.all.filter (loses t p.tracks j) = [] :=
    List.filter_eq_nil_iff.mpr fun k _ => by rw [hnone k]; decide
  refine ⟨h.nextId, h.full, h.confirmed, ?_, fun i hi k hl => h.lost i (hold hi hl) k hl,
    fun i hi k hl => h.won i (hold hi hl) k hl, fun i hi hwon => ?_, fun i hi => ?_⟩
  · rw [h.events, List.flatMap_append, List.flatMap_singleton, hempty, List.map_nil, List.append_nil]
  · refine h.kept i (fun j hj => hi j (List.mem_append_left _ hj)) (hwon.imp_left fun hnot hmem => ?_)
    exact hnot (List.mem_append_left _ hmem)
  · exact h.unended i fun j hj => hi j (List.mem_append_left _ hj)

theorem DuplicatesOver.step (h : DuplicatesOver t done p q)
    (hback : ∀ j k, loses t p.tracks j k = true → (p.tracks.get k).mergedWith = some j) {j : Slot} (hj : j ∉ done) :
    DuplicatesOver t (done ++ [j]) p (q.endDuplicate t j) := by
  have hpartner : ∀ {j k}, loses t p.tracks j k = true → (p.tracks.get j).mergedWith = some k := fun hl =>
    ((loses_iff _ _ _ _).mp hl).1
  have hlt : ∀ {j k}, loses t p.tracks j k = true → j.num < k.num := fun hl => ((loses_iff _ _ _ _).mp hl).2.1
  /- A slot that loses ends no other. -/
  have hends : ∀ {i k}, loses t p.tracks i k = true → ∀ l, loses t p.tracks k l = false := by
    intro i k hik l
    by_contra hkl
    rw [Bool.not_eq_false] at hkl
    cases (hback i k hik).symm.trans (hpartner hkl)
    have h1 := hlt hik
    have h2 := hlt hkl
    omega
  by_cases hloser : ∃ i ∈ done, loses t p.tracks i j = true
  · obtain ⟨i, hi, hij⟩ := hloser
    obtain ⟨hempty, -⟩ := h.lost i hi j hij
    rw [Processing.endDuplicate_of_not fun k => ?_]
    · exact h.skip (hends hij)
    · rw [loses, hempty]; rfl
  · have hsafe : ∀ i ∈ done, loses t p.tracks i j = false := fun i hi => by
      rw [← Bool.not_eq_true]
      exact fun hl => hloser ⟨i, hi, hl⟩
    have hsame : q.tracks.get j = p.tracks.get j := h.kept j hsafe (.inl hj)
    by_cases hwins : ∃ k, loses t p.tracks j k = true
    · obtain ⟨k, hjk⟩ := hwins
      have hne : k ≠ j := fun heq => by have := hlt hjk; rw [heq] at this; omega
      have hunique : ∀ {i}, loses t p.tracks i k = true → i = j := fun hik =>
        Option.some.inj ((hback _ k hik).symm.trans (hback j k hjk))
      have hsamek : q.tracks.get k = p.tracks.get k := by
        refine h.kept k (fun i hi => ?_) (.inr (hends hjk))
        rw [← Bool.not_eq_true]
        exact fun hik => hj (hunique hik ▸ hi)
      have hfilter : Ix.all.filter (loses t p.tracks j) = [k] := by
        refine filter_all_singleton fun i => ?_
        rw [Bool.eq_iff_iff, decide_eq_true_iff]
        exact ⟨fun hji => Option.some.inj ((hpartner hji).symm.trans (hpartner hjk)), fun heq => heq ▸ hjk⟩
      rw [Processing.endDuplicate_of_loses (k := k) (by rw [loses_congr hsame]; exact hjk)]
      refine ⟨h.nextId, h.full, h.confirmed, ?_, fun i hi l hil => ?_, fun i hi l hil => ?_, fun i hi hnot => ?_,
        fun i hi => ?_⟩
      · dsimp only
        rw [h.events, List.flatMap_append, List.flatMap_singleton, hfilter, List.append_assoc, duplicateEvent, hsame,
          hsamek]
        rfl
      · by_cases hlk : l = k
        · subst hlk
          refine ⟨(Four.get_set_ne _ hne _).trans (Four.get_set_self _ _ _), ?_⟩
          dsimp only
          rw [Four.get_set_self, duplicateEnding, hsamek]
          rfl
        · have hidone : i ∈ done := by
            refine (List.mem_append.mp hi).resolve_right fun hlast => hlk ?_
            rw [List.mem_singleton.mp hlast] at hil
            exact Option.some.inj ((hpartner hil).symm.trans (hpartner hjk))
          obtain ⟨hempty, hended⟩ := h.lost i hidone l hil
          have hlj : l ≠ j := fun heq => by
            rw [heq, hsafe i hidone] at hil
            cases hil
          dsimp only
          rw [Four.get_set_ne _ hlj, Four.get_set_ne _ hlk, Four.get_set_ne _ hlk]
          exact ⟨hempty, hended⟩
      · by_cases hij : i = j
        · subst hij
          dsimp only
          rw [Four.get_set_self, hsame]
        · have hidone : i ∈ done := (List.mem_append.mp hi).resolve_right fun hlast => hij (List.mem_singleton.mp hlast)
          have hik : i ≠ k := fun heq => by
            rw [heq, hends hjk l] at hil
            cases hil
          dsimp only
          rw [Four.get_set_ne _ hij, Four.get_set_ne _ hik, h.won i hidone l hil]
      · have hij : i ≠ j := by
          rintro rfl
          rcases hnot with hnot | hnot
          · exact hnot (List.mem_append_right _ (List.mem_singleton.mpr rfl))
          · rw [hnot k] at hjk
            cases hjk
        have hik : i ≠ k := by
          rintro rfl
          rw [hi j (List.mem_append_right _ (List.mem_singleton.mpr rfl))] at hjk
          cases hjk
        dsimp only
        rw [Four.get_set_ne _ hij, Four.get_set_ne _ hik]
        exact h.kept i (fun l hl => hi l (List.mem_append_left _ hl)) (hnot.imp_left fun hnot hmem =>
          hnot (List.mem_append_left _ hmem))
      · have hik : i ≠ k := by
          rintro rfl
          rw [hi j (List.mem_append_right _ (List.mem_singleton.mpr rfl))] at hjk
          cases hjk
        dsimp only
        rw [Four.get_set_ne _ hik]
        exact h.unended i fun l hl => hi l (List.mem_append_left _ hl)
    · have hnone : ∀ k, loses t p.tracks j k = false := fun k => by
        rw [← Bool.not_eq_true]
        exact fun hl => hwins ⟨k, hl⟩
      rw [Processing.endDuplicate_of_not fun k => by rw [loses_congr hsame, hnone k]]
      exact h.skip hnone

theorem DuplicatesOver.foldl {rest : List Slot} (h : DuplicatesOver t done p q)
    (hback : ∀ j k, loses t p.tracks j k = true → (p.tracks.get k).mergedWith = some j) (hnodup : (done ++ rest).Nodup) :
    DuplicatesOver t (done ++ rest) p (rest.foldl (Processing.endDuplicate t) q) := by
  induction rest generalizing done q with
  | nil => rw [List.append_nil]; exact h
  | cons j js ih =>
    have hj : j ∉ done := fun hmem => List.disjoint_of_nodup_append hnodup hmem List.mem_cons_self
    rw [List.append_cons] at hnodup ⊢
    exact ih (h.step hback hj) hnodup

end

/-- Step 8 over all slots. -/
theorem duplicates_over_all {t : TrackingSet} {p : Processing}
    (hback : ∀ j k, loses t p.tracks j k = true → (p.tracks.get k).mergedWith = some j) :
    DuplicatesOver t Ix.all p (Ix.all.foldl (Processing.endDuplicate t) p) :=
  DuplicatesOver.nil.foldl (rest := Ix.all) hback (by decide)

end Sys2Proof.Machine
end

section
/-! The eight steps together, and what becomes of a slot (statements O48 and O49). -/

namespace Sys2Proof.Machine

/-! ### The stages of a scan (R91) -/

/-- What a matching keeps to: partners know each other and are in use, and only tracks in use take a return. -/
structure Matching.Sound (m : Matching) : Prop where
  partners : ∀ j k, (m.tracks.get j).mergedWith = some k → j ≠ k ∧ (m.tracks.get k).mergedWith = some j
    ∧ (m.tracks.get j).state ≠ .free
  assigned : ∀ k a, m.assigned.get k = some a → (m.tracks.get k).state ≠ .free

theorem matchScan_get (t : TrackingSet) (zone : Bool) (tracks : Four Track) (scan : Scan) (k : Slot) :
    (matchScan t zone tracks scan).tracks.get k =
      { tracks.get k with mergedWith := (mergedPairs t scan.position tracks).get k } := by
  rw [matchScan, withMerged, Four.get_tabulate]

theorem matchScan_sound (t : TrackingSet) (zone : Bool) (tracks : Four Track) (scan : Scan) :
    (matchScan t zone tracks scan).Sound where
  partners j k h := by
    rw [matchScan_mergedWith] at h ⊢
    obtain ⟨hne, hback⟩ := mergedPairs_partners t scan.position tracks j k h
    refine ⟨hne, hback, ?_⟩
    rw [matchScan_get]
    exact ((pairIsClose_iff _ _ _ _ _).mp (mergedPairs_close h)).1
  assigned k a h := by
    rw [matchScan_get]
    exact ((gates_iff _ _ _ _).mp (matchScan_assigned h).2).1

/-- Before step 5. -/
def beforeHits (trk : Tracker) (m : Matching) : Processing :=
  { tracks := m.tracks, nextId := trk.nextId, events := [], full := [], confirmed := Four.const false
    ended := Four.const none }

/-- After step 5. -/
def afterHits (t : TrackingSet) (trk : Tracker) (pos : Int) (m : Matching) : Processing :=
  Ix.all.foldl (Processing.hitSlot t pos m.assigned) (beforeHits trk m)

/-- After step 6. -/
def afterMisses (t : TrackingSet) (trk : Tracker) (pos : Int) (m : Matching) : Processing :=
  Ix.all.foldl (Processing.missSlot t (trk.travel pos) m.assigned) (afterHits t trk pos m)

/-- After step 7. -/
def afterStarts (t : TrackingSet) (trk : Tracker) (pos : Int) (m : Matching) : Processing :=
  (untaken m.assigned m.indexed).foldl (Processing.startTrack pos) (afterMisses t trk pos m)

/-- After R108. -/
def afterMerging (t : TrackingSet) (trk : Tracker) (pos : Int) (m : Matching) : Processing :=
  { afterStarts t trk pos m with tracks := updateMerged (trk.travel pos) (afterStarts t trk pos m).tracks }

theorem runSteps_eq (t : TrackingSet) (trk : Tracker) (pos : Int) (m : Matching) :
    runSteps t trk pos m = Ix.all.foldl (Processing.endDuplicate t) (afterMerging t trk pos m) := rfl

section
variable (t : TrackingSet) (trk : Tracker) (pos : Int) (m : Matching)

theorem hits_over_all : HitsOver t pos m.tracks m.assigned Ix.all (beforeHits trk m) (afterHits t trk pos m) := by
  refine HitsOver.foldl (served := 0) (by decide) (fun _ _ => rfl) ⟨[], fun n => ?_, fun n hn => ?_⟩ (by decide)
  · simp [beforeHits]
  · exact absurd hn List.not_mem_nil

theorem misses_over_all :
    MissesOver t (trk.travel pos) m.assigned Ix.all (afterHits t trk pos m) (afterMisses t trk pos m) :=
  MissesOver.foldl (by decide) _

theorem starts_over_all :
    StartsOver pos (freeSlots (afterMisses t trk pos m).tracks) (untaken m.assigned m.indexed) (afterMisses t trk pos m)
      (afterStarts t trk pos m) :=
  StartsOver.foldl pos rfl

/-- A slot confirms. -/
def Matching.confirms (k : Slot) : Bool := confirmsBy t (m.assigned.get k) (m.tracks.get k)

/-- The ids of the slots that confirm. -/
def Matching.ids : List (Slot × Nat) := confirmIds m.tracks (m.confirms t) Ix.all trk.nextId

/-- A slot coasts out. -/
def Matching.coastsOut (k : Slot) : Bool := Machine.coastsOut t (trk.travel pos) (m.assigned.get k) (m.tracks.get k)

/-- A slot after steps 5 and 6. -/
def Matching.left (k : Slot) : Track :=
  match m.assigned.get k with
  | some a => hitTrack t pos a (idTaken (m.ids t trk) k) (m.tracks.get k)
  | none => missTrack t (trk.travel pos) (m.tracks.get k)

theorem afterHits_get (k : Slot) :
    (afterHits t trk pos m).tracks.get k =
      servedTrack t pos (m.assigned.get k) (idTaken (m.ids t trk) k) (m.tracks.get k) :=
  (hits_over_all t trk pos m).tracks k (Ix.mem_all k)

theorem afterMisses_get (k : Slot) : (afterMisses t trk pos m).tracks.get k = m.left t trk pos k := by
  rw [(misses_over_all t trk pos m).tracks k (Ix.mem_all k), afterHits_get, Matching.left]
  cases m.assigned.get k <;> rfl

theorem coastsOut_afterHits (k : Slot) :
    coastsOut t (trk.travel pos) (m.assigned.get k) ((afterHits t trk pos m).tracks.get k) = m.coastsOut t trk pos k := by
  rw [afterHits_get, Matching.coastsOut]
  cases m.assigned.get k with
  | none => rfl
  | some a => rw [coastsOut_some, coastsOut_some]

theorem Matching.coastsOut_iff (k : Slot) :
    m.coastsOut t trk pos k = true ↔ (m.tracks.get k).state = .coasting ∧ m.assigned.get k = none
      ∧ t.coastDistance < min 11000 ((m.tracks.get k).coasted + (trk.travel pos).toNat) := by
  simp only [Matching.coastsOut, Machine.coastsOut, Bool.and_eq_true, decide_eq_true_eq, Option.isNone_iff_eq_none, and_assoc]

theorem afterHits_of_coastsOut {k : Slot} (h : m.coastsOut t trk pos k = true) :
    (afterHits t trk pos m).tracks.get k = m.tracks.get k := by
  obtain ⟨-, hnone, -⟩ := (Matching.coastsOut_iff _ _ _ _ _).mp h
  rw [afterHits_get, hnone]
  rfl

theorem afterMisses_ended (k : Slot) :
    (afterMisses t trk pos m).ended.get k =
      if m.coastsOut t trk pos k then some (coastedOutEnding (m.tracks.get k)) else none := by
  rw [(misses_over_all t trk pos m).ended k (Ix.mem_all k), coastsOut_afterHits, (hits_over_all t trk pos m).ended]
  split
  · next h => rw [afterHits_of_coastsOut t trk pos m h]
  · exact Four.get_const _ _

/-- A slot in use after step 6 stays through step 7; a FREE one stays or takes a new track. -/
theorem afterStarts_get (k : Slot) :
    (afterStarts t trk pos m).tracks.get k = m.left t trk pos k
      ∨ ((m.left t trk pos k).state = .free ∧ ∃ r : Indexed, (afterStarts t trk pos m).tracks.get k = newTrack pos r.ret) := by
  rw [← afterMisses_get]
  by_cases hfree : ((afterMisses t trk pos m).tracks.get k).state = .free
  · rcases (starts_over_all t trk pos m).cases (mem_freeSlots.mpr hfree) with h | h
    · exact .inl h
    · exact .inr ⟨hfree, h⟩
  · exact .inl ((starts_over_all t trk pos m).other k (mt mem_freeSlots.mp hfree))

/-- So the wires after step 7 are those after step 6. -/
theorem afterStarts_of_wire {k : Slot} (h : ((afterStarts t trk pos m).tracks.get k).state.isWire = true) :
    (afterStarts t trk pos m).tracks.get k = m.left t trk pos k := by
  rcases afterStarts_get t trk pos m k with heq | ⟨-, r, heq⟩
  · exact heq
  · rw [heq] at h
    cases h

theorem Matching.left_of_hit {k : Slot} {a : Assigned} (h : m.assigned.get k = some a) :
    m.left t trk pos k = hitTrack t pos a (idTaken (m.ids t trk) k) (m.tracks.get k) := by
  rw [Matching.left, h]

theorem Matching.left_of_none {k : Slot} (h : m.assigned.get k = none) :
    m.left t trk pos k = missTrack t (trk.travel pos) (m.tracks.get k) := by
  rw [Matching.left, h]

theorem missTrack_of_wire {travel : Int} {x : Track} (h : (missTrack t travel x).state.isWire = true) :
    (x.state = .confirmed ∨ x.state = .coasting ∧ ¬ t.coastDistance < min 11000 (x.coasted + travel.toNat))
      ∧ missTrack t travel x = { x with state := .coasting, coasted := (missTrack t travel x).coasted, hits := 0
                                        peak := none, indication := none } := by
  rw [missTrack] at h ⊢
  split at h
  · next hx => rw [hx] at h; cases h
  · cases h
  · next hx => exact ⟨.inl hx, rfl⟩
  · next hx =>
    split at h
    · cases h
    · next hnear =>
      rw [if_neg hnear]
      exact ⟨.inr ⟨hx, hnear⟩, by rw [← hx]; rfl⟩

/-- A wire after step 6 has the partner of step 3. -/
theorem Matching.left_mergedWith {k : Slot} (h : (m.left t trk pos k).state.isWire = true) :
    (m.left t trk pos k).mergedWith = (m.tracks.get k).mergedWith := by
  cases ha : m.assigned.get k with
  | some a => rw [Matching.left_of_hit t trk pos m ha]; rfl
  | none =>
    rw [Matching.left_of_none t trk pos m ha] at h ⊢
    rw [(missTrack_of_wire t h).2]

/-- R108, for a slot after step 7. -/
theorem mergedDistanceOf_pos {tracks : Four Track} {x : Track} {travel : Int}
    (h : mergedDistanceOf travel tracks x ≠ 0) : ∃ k, x.mergedWith = some k ∧ x.state.isWire = true
      ∧ (tracks.get k).state.isWire = true
      ∧ mergedDistanceOf travel tracks x = if x.previousPartner = some k then x.mergedDistance + travel else travel := by
  unfold mergedDistanceOf at h ⊢
  cases hx : x.mergedWith with
  | none => rw [hx] at h; exact absurd rfl h
  | some k =>
    rw [hx] at h
    dsimp only at h ⊢
    split at h
    · next hwires =>
      obtain ⟨hwire, hwirek⟩ := (Bool.and_eq_true _ _).mp hwires
      exact ⟨k, rfl, hwire, hwirek, if_pos hwires⟩
    · exact absurd rfl h

theorem afterMerging_get (k : Slot) :
    (afterMerging t trk pos m).tracks.get k =
      let x := (afterStarts t trk pos m).tracks.get k
      { x with
        mergedDistance := mergedDistanceOf (trk.travel pos) (afterStarts t trk pos m).tracks x
        previousPartner := x.mergedWith } :=
  updateMerged_get _ _ _

/-- A slot that ends another and the slot that it ends are wires after step 6. -/
theorem wires_of_loses {j k : Slot} (h : loses t (afterMerging t trk pos m).tracks j k = true) :
    ((m.left t trk pos j).state.isWire = true ∧ (afterStarts t trk pos m).tracks.get j = m.left t trk pos j)
      ∧ ((m.left t trk pos k).state.isWire = true ∧ (afterStarts t trk pos m).tracks.get k = m.left t trk pos k) := by
  obtain ⟨hpartner, -, hfar⟩ := (loses_iff _ _ _ _).mp h
  rw [afterMerging_get] at hpartner hfar
  dsimp only at hpartner hfar
  have hdistance : mergedDistanceOf (trk.travel pos) (afterStarts t trk pos m).tracks
      ((afterStarts t trk pos m).tracks.get j) ≠ 0 := by omega
  obtain ⟨i, hi, hwirej, hwirek, -⟩ := mergedDistanceOf_pos hdistance
  cases hi.symm.trans hpartner
  have hj := afterStarts_of_wire t trk pos m hwirej
  have hk := afterStarts_of_wire t trk pos m hwirek
  exact ⟨⟨hj ▸ hwirej, hj⟩, ⟨hk ▸ hwirek, hk⟩⟩

end

theorem loses_back {t : TrackingSet} {trk : Tracker} {pos : Int} {m : Matching} (hm : m.Sound) (j k : Slot)
    (h : loses t (afterMerging t trk pos m).tracks j k = true) :
    ((afterMerging t trk pos m).tracks.get k).mergedWith = some j := by
  obtain ⟨⟨hwirej, hj⟩, ⟨hwirek, hk⟩⟩ := wires_of_loses t trk pos m h
  obtain ⟨hpartner, -⟩ := (loses_iff _ _ _ _).mp h
  rw [afterMerging_get] at hpartner ⊢
  dsimp only at hpartner ⊢
  rw [hj, Matching.left_mergedWith t trk pos m hwirej] at hpartner
  rw [hk, Matching.left_mergedWith t trk pos m hwirek]
  exact (hm.partners j k hpartner).2.1

theorem runSteps_duplicates {m : Matching} (hm : m.Sound) (t : TrackingSet) (trk : Tracker) (pos : Int) :
    DuplicatesOver t Ix.all (afterMerging t trk pos m) (runSteps t trk pos m) := by
  rw [runSteps_eq]
  exact duplicates_over_all (loses_back hm)

end Sys2Proof.Machine
end

section
/-! What becomes of a slot in a scan (statement O48). -/

namespace Sys2Proof.Machine

/-- Step 8 leaves a slot that is not ended as it was, but for its merged distance and its previous partner. -/
def Track.settled (d : Int) (x : Track) : Track := { x with mergedDistance := d, previousPartner := x.mergedWith }

/-- What a scan makes of a slot with the track `x`: what it took, how its track ended, the track after the scan and the
outcome's word for it. -/
inductive SlotStory (t : TrackingSet) (travel pos : Int) (x : Track) :
    Option Assigned → Option Ending → Track → SlotResult → Prop where
  | idle (hx : x.state = .free) (d : Int) : SlotStory t travel pos x none none (x.settled d) .none
  | starts (hx : x.state = .free) (r : Converted) : SlotStory t travel pos x none none (newTrack pos r) .new
  | hits (hx : x.state ≠ .free) (a : Assigned) (id : Nat) (d : Int) :
      SlotStory t travel pos x (some a) none ((hitTrack t pos a id x).settled d) (if a.joined then .sharedHit else .hit)
  | misses (hx : x.state = .confirmed ∨ x.state = .coasting ∧ ¬ t.coastDistance < min 11000 (x.coasted + travel.toNat))
      (d : Int) : SlotStory t travel pos x none none ((missTrack t travel x).settled d) .miss
  | drops (hx : x.state = .tentative) : SlotStory t travel pos x none none .empty .miss
  | restarts (hx : x.state = .tentative) (r : Converted) : SlotStory t travel pos x none none (newTrack pos r) .new
  | coastsOut (hx : x.state = .coasting) : SlotStory t travel pos x none (some (coastedOutEnding x)) .empty .ended
  | replaced (hx : x.state = .coasting) (r : Converted) :
      SlotStory t travel pos x none (some (coastedOutEnding x)) (newTrack pos r) .endedAndNew
  | duplicate (hx : x.state ≠ .free) (asg : Option Assigned) (id : Nat) :
      SlotStory t travel pos x asg (some { wireId := id, reason := .duplicate }) .empty .ended

section
variable {t : TrackingSet} {trk : Tracker} {pos : Int} {m : Matching}

/-- A slot that is not ended as a duplicate after the scan. -/
theorem runSteps_get_of_not_lost (hm : m.Sound) {k : Slot}
    (h : ∀ j, loses t (afterMerging t trk pos m).tracks j k = false) :
    (∃ d, (runSteps t trk pos m).tracks.get k = ((afterStarts t trk pos m).tracks.get k).settled d
        ∧ (((afterStarts t trk pos m).tracks.get k).state.isWire = false → d = 0))
      ∧ (runSteps t trk pos m).ended.get k =
          if m.coastsOut t trk pos k then some (coastedOutEnding (m.tracks.get k)) else none := by
  have hdup := runSteps_duplicates hm t trk pos
  have hended : (afterStarts t trk pos m).ended = (afterMisses t trk pos m).ended := (starts_over_all t trk pos m).ended
  refine ⟨?_, ?_⟩
  · by_cases hwins : ∃ i, loses t (afterMerging t trk pos m).tracks k i = true
    · obtain ⟨i, hi⟩ := hwins
      obtain ⟨⟨hwire, heq⟩, -⟩ := wires_of_loses t trk pos m hi
      refine ⟨0, ?_, fun _ => rfl⟩
      rw [hdup.won k (Ix.mem_all k) i hi, afterMerging_get]
      rfl
    · have hnone : ∀ i, loses t (afterMerging t trk pos m).tracks k i = false := fun i => by
        rw [← Bool.not_eq_true]
        exact fun hl => hwins ⟨i, hl⟩
      refine ⟨_, (hdup.kept k (fun j _ => h j) (.inr hnone)).trans (afterMerging_get t trk pos m k), fun hwire => ?_⟩
      by_contra hd
      obtain ⟨-, -, hwire', -⟩ := mergedDistanceOf_pos hd
      rw [hwire] at hwire'
      cases hwire'
  · rw [hdup.unended k fun j _ => h j, ← afterMisses_ended, ← hended]
    rfl

theorem hitTrack_state_ne_free {a : Assigned} {id : Nat} {x : Track} (h : x.state ≠ .free) :
    (hitTrack t pos a id x).state ≠ .free := by
  rw [hitTrack]
  dsimp only
  split
  · decide
  · decide

/-- R91, slot by slot. -/
theorem slotStory (hm : m.Sound) (t : TrackingSet) (trk : Tracker) (pos : Int) (k : Slot) :
    SlotStory t (trk.travel pos) pos (m.tracks.get k) (m.assigned.get k) ((runSteps t trk pos m).ended.get k)
      ((runSteps t trk pos m).tracks.get k)
      (slotResult (m.tracks.get k).state ((runSteps t trk pos m).tracks.get k).state (m.assigned.get k)
        ((runSteps t trk pos m).ended.get k)) := by
  by_cases hloser : ∃ j, loses t (afterMerging t trk pos m).tracks j k = true
  · obtain ⟨j, hj⟩ := hloser
    obtain ⟨htrack, hended⟩ := (runSteps_duplicates hm t trk pos).lost j (Ix.mem_all j) k hj
    obtain ⟨-, hwire, -⟩ := wires_of_loses t trk pos m hj
    have hx : (m.tracks.get k).state ≠ .free := by
      cases ha : m.assigned.get k with
      | some a => exact hm.assigned k a ha
      | none =>
        rw [Matching.left_of_none t trk pos m ha] at hwire
        rcases (missTrack_of_wire t hwire).1 with h | ⟨h, -⟩ <;> rw [h] <;> decide
    rw [htrack, hended]
    exact .duplicate hx _ _
  · have hsafe : ∀ j, loses t (afterMerging t trk pos m).tracks j k = false := fun j => by
      rw [← Bool.not_eq_true]
      exact fun hl => hloser ⟨j, hl⟩
    obtain ⟨⟨d, htrack, hd⟩, hended⟩ := runSteps_get_of_not_lost hm hsafe
    have hstarted := afterStarts_get t trk pos m k
    rw [htrack, hended]
    generalize (afterStarts t trk pos m).tracks.get k = y at hd hstarted ⊢
    /- A new track, and a slot that a track left. -/
    have hnew : ∀ r : Indexed, y = newTrack pos r.ret → y.settled d = newTrack pos r.ret := by
      rintro r rfl
      rw [hd rfl]
      rfl
    have hempty : y = .empty → y.settled d = .empty := by
      rintro rfl
      rw [hd rfl]
      rfl
    cases ha : m.assigned.get k with
    | some a =>
      have hx := hm.assigned k a ha
      have hcoasts : m.coastsOut t trk pos k = false := by
        rw [Matching.coastsOut, ha, coastsOut_some]
      rw [Matching.left_of_hit t trk pos m ha] at hstarted
      have hy := hstarted.resolve_right fun h => hitTrack_state_ne_free hx h.1
      rw [hy, hcoasts]
      exact .hits hx a _ d
    | none =>
      have hcoasts := Matching.coastsOut_iff t trk pos m k
      rw [ha] at hcoasts
      rw [Matching.left_of_none t trk pos m ha] at hstarted
      cases hx : (m.tracks.get k).state with
      | free =>
        rw [if_neg (fun h => by rw [hcoasts, hx] at h; cases h.1)]
        have hmiss : missTrack t (trk.travel pos) (m.tracks.get k) = m.tracks.get k := by rw [missTrack, hx]
        rw [hmiss] at hstarted
        rcases hstarted with rfl | ⟨-, r, hr⟩
        · have hstate : ((m.tracks.get k).settled d).state = .free := hx
          rw [hstate]
          exact .idle hx d
        · rw [hnew r hr]
          exact .starts hx r.ret
      | tentative =>
        rw [if_neg (fun h => by rw [hcoasts, hx] at h; cases h.1)]
        have hmiss : missTrack t (trk.travel pos) (m.tracks.get k) = .empty := by rw [missTrack, hx]
        rw [hmiss] at hstarted
        rcases hstarted with hy | ⟨-, r, hr⟩
        · rw [hempty hy]
          exact .drops hx
        · rw [hnew r hr]
          exact .restarts hx r.ret
      | confirmed =>
        rw [if_neg (fun h => by rw [hcoasts, hx] at h; cases h.1)]
        have hmiss : (missTrack t (trk.travel pos) (m.tracks.get k)).state = .coasting := by rw [missTrack, hx]
        have hy := hstarted.resolve_right fun h => by rw [hmiss] at h; cases h.1
        have hstate : (y.settled d).state = .coasting := by rw [hy]; exact hmiss
        rw [hstate, hy]
        exact .misses (.inl hx) d
      | coasting =>
        by_cases hfar : t.coastDistance < min 11000 ((m.tracks.get k).coasted + (trk.travel pos).toNat)
        · rw [if_pos (hcoasts.mpr ⟨hx, rfl, hfar⟩)]
          have hmiss : missTrack t (trk.travel pos) (m.tracks.get k) = .empty := by rw [missTrack, hx]; exact if_pos hfar
          rw [hmiss] at hstarted
          rcases hstarted with hy | ⟨-, r, hr⟩
          · rw [hempty hy]
            exact .coastsOut hx
          · rw [hnew r hr]
            exact .replaced hx r.ret
        · rw [if_neg (fun h => hfar (hcoasts.mp h).2.2)]
          have hmiss : (missTrack t (trk.travel pos) (m.tracks.get k)).state = .coasting := by
            rw [missTrack, hx]
            dsimp only
            rw [if_neg hfar]
            exact hx
          have hy := hstarted.resolve_right fun h => by rw [hmiss] at h; cases h.1
          have hstate : (y.settled d).state = .coasting := by rw [hy]; exact hmiss
          rw [hstate, hy]
          exact .misses (.inr ⟨hx, hfar⟩) d

end

/-! ### On the state -/

theorem State.raiseSlotsFull_eq (vs : List Int) (s : State) :
    s.raiseSlotsFull vs = vs.foldl (fun t v => t.raise .trackSlotsFull { qualifier := 0, number := v }) s := by
  induction vs generalizing s with
  | nil => rfl
  | cons v vs ih => exact ih _

theorem State.raiseSlotsFull_live (vs : List Int) (s : State) : (s.raiseSlotsFull vs).live = s.live := by
  induction vs generalizing s with
  | nil => rfl
  | cons v vs ih => rw [State.raiseSlotsFull, ih, State.raise_eq]

/-- R83: the wear value is the middle sample of three or five, and the lower middle one of four. -/
theorem wearValue_median (w : List WearSample) (h : 3 ≤ w.length) :
    ∃ sorted : List WearSample, sorted.Perm w ∧ sorted.Pairwise (fun x y => x.remaining ≤ y.remaining)
      ∧ wearValue w = if w.length = 5 then sorted[2]? else sorted[1]? := by
  refine ⟨sortByKey (fun x : WearSample => [(x.remaining : Int)]) w, sortByKey_perm _ _,
    (sortByKey_pairwise _ _).imp fun hle => ?_, ?_⟩
  · simp only [keyLe_cons_iff, keyLe_nil, and_true] at hle
    omega
  · rw [wearValue, if_neg (by omega)]

/-! ### The outcome's words (R110) -/

section
variable {t : TrackingSet} {travel pos : Int} {x after : Track} {asg : Option Assigned} {ended : Option Ending}
  {result : SlotResult}

theorem SlotStory.result_of_hit (h : SlotStory t travel pos x asg ended after result) {a : Assigned} (ha : asg = some a) :
    result = if ended.isSome then .ended else if a.joined then .sharedHit else .hit := by
  cases h with
  | hits => cases ha; rfl
  | duplicate => rfl
  | _ => cases ha

theorem SlotStory.result_of_none (h : SlotStory t travel pos x asg ended after result) (hx : x.state ≠ .free)
    (ha : asg = none) :
    result = if ended.isSome then (if after.state = .tentative then .endedAndNew else .ended)
      else if x.state = .tentative ∧ after.state = .tentative then .new else .miss := by
  cases h with
  | idle hfree => exact absurd hfree hx
  | starts hfree => exact absurd hfree hx
  | hits => cases ha
  | misses hold =>
    rw [if_neg (by decide), if_neg]
    rintro ⟨htentative, -⟩
    rcases hold with h | ⟨h, -⟩ <;> rw [htentative] at h <;> cases h
  | drops => exact (if_neg fun h => by cases h.2).symm
  | restarts htentative => exact (if_pos ⟨htentative, rfl⟩).symm
  | coastsOut => rfl
  | replaced => rfl
  | duplicate => rfl

theorem SlotStory.of_free (h : SlotStory t travel pos x asg ended after result) (hx : x.state = .free) :
    asg = none ∧ ended = none ∧ result = if after.state = .free then .none else .new := by
  have hne : ∀ {y : TrackState}, x.state = y → y = .free := fun hy => hy.symm.trans hx
  cases h with
  | idle => exact ⟨rfl, rfl, (if_pos hx).symm⟩
  | starts => exact ⟨rfl, rfl, rfl⟩
  | hits hused => exact absurd hx hused
  | misses hold => rcases hold with h | ⟨h, -⟩ <;> cases hne h
  | drops hold => cases hne hold
  | restarts hold => cases hne hold
  | coastsOut hold => cases hne hold
  | replaced hold => cases hne hold
  | duplicate hused => exact absurd hx hused

theorem SlotStory.of_ended (h : SlotStory t travel pos x asg ended after result) (hended : ended.isSome = true) :
    x.state ≠ .free ∧ ∀ a : Assigned, asg = some a → ended.map Ending.reason = some .duplicate := by
  cases h with
  | coastsOut hx => exact ⟨by rw [hx]; decide, fun _ ha => by cases ha⟩
  | replaced hx => exact ⟨by rw [hx]; decide, fun _ ha => by cases ha⟩
  | duplicate hx => exact ⟨hx, fun _ _ => rfl⟩
  | _ => cases hended

theorem SlotStory.of_none (h : SlotStory t travel pos x asg ended after result) (hresult : result = .none) :
    x.state = .free ∧ after.state = .free := by
  cases h with
  | idle hx => exact ⟨hx, hx⟩
  | hits _ a => split at hresult <;> cases hresult
  | _ => cases hresult

theorem SlotStory.of_taken (h : SlotStory t travel pos x asg ended after result)
    (hresult : result = .hit ∨ result = .sharedHit) :
    ∃ a id d, asg = some a ∧ (result = .sharedHit ↔ a.joined = true) ∧ x.state ≠ .free
      ∧ after = (hitTrack t pos a id x).settled d := by
  cases h with
  | hits hx a id d =>
    refine ⟨a, id, d, rfl, ?_, hx, rfl⟩
    cases a.joined <;> decide
  | _ => rcases hresult with h | h <;> cases h

theorem SlotStory.of_miss (h : SlotStory t travel pos x asg ended after result) (hresult : result = .miss) :
    asg = none ∧ ((x.state = .tentative ∧ after = .empty) ∨ ∃ d, after = (missTrack t travel x).settled d
      ∧ (x.state = .confirmed ∨ x.state = .coasting ∧ ¬ t.coastDistance < min 11000 (x.coasted + travel.toNat))) := by
  cases h with
  | misses hx d => exact ⟨rfl, .inr ⟨d, rfl, hx⟩⟩
  | drops hx => exact ⟨rfl, .inl ⟨hx, rfl⟩⟩
  | hits _ a => split at hresult <;> cases hresult
  | _ => cases hresult

theorem SlotStory.of_new (h : SlotStory t travel pos x asg ended after result) (hresult : result = .new) :
    (x.state = .free ∨ x.state = .tentative) ∧ after.state = .tentative ∧ after.hits = 1 ∧ after.lastHit = pos := by
  cases h with
  | starts hx => exact ⟨.inl hx, rfl, rfl, rfl⟩
  | restarts hx => exact ⟨.inr hx, rfl, rfl, rfl⟩
  | hits _ a => split at hresult <;> cases hresult
  | _ => cases hresult

theorem SlotStory.of_ended_alone (h : SlotStory t travel pos x asg ended after result) (hresult : result = .ended) :
    after = .empty := by
  cases h with
  | coastsOut => rfl
  | duplicate => rfl
  | hits _ a => split at hresult <;> cases hresult
  | _ => cases hresult

theorem SlotStory.of_endedAndNew (h : SlotStory t travel pos x asg ended after result) (hresult : result = .endedAndNew) :
    x.state = .coasting ∧ after.state = .tentative ∧ after.hits = 1 := by
  cases h with
  | replaced hx => exact ⟨hx, rfl, rfl⟩
  | hits _ a => split at hresult <;> cases hresult
  | _ => cases hresult

/-- R103: a wire keeps its id. -/
theorem SlotStory.wireId (h : SlotStory t travel pos x asg ended after result) (hx : x.state.isWire = true)
    (hafter : after.state.isWire = true) : after.wireId = x.wireId := by
  cases h with
  | hits _ a id d =>
    have hconfirms : confirmsBy t (some a) x = false := by
      cases hstate : x.state with
      | tentative => rw [hstate] at hx; cases hx
      | _ => simp [confirmsBy, hstate]
    exact (servedTrack_wire (asg := some a) hconfirms pos id).2
  | misses _ d =>
    have hwire : (missTrack t travel x).state.isWire = true := hafter
    rw [Track.settled, (missTrack_of_wire t hwire).2]
  | idle => rfl
  | _ => cases hafter

theorem pushSample_eq (w : List WearSample) (x : Option WearSample) :
    pushSample w x =
      match x with
      | none => w
      | some x => if 5 ≤ w.length then (w ++ [x]).drop 1 else w ++ [x] := by
  cases x with
  | none => rfl
  | some x =>
    have hlonger : 5 < (w ++ [x]).length ↔ 5 ≤ w.length := by simp
    simp only [pushSample, hlonger]

end

/-- R100 to R102, in the words of the statement. -/
theorem hitTrack_settled_eq {t : TrackingSet} {x : Track} (hx : x.state ≠ .free) (pos : Int) (a : Assigned) (id : Nat)
    (d : Int) :
    let after := (hitTrack t pos a id x).settled d
    let inst := if pos = x.lastHit then 0 else roundDiv ((a.ret.ret.s - x.lastS) * 1000) (pos - x.lastHit)
    after =
      { after with
        lastS := a.ret.ret.s, lastH := a.ret.ret.h, lastHit := pos, hits := min 65535 (x.hits + 1)
        rate := if a.shared then x.rate else max (-20000) (min 20000 (roundDiv (3 * x.rate + inst) 4))
        peak := some a.ret.ret.peak, indication := some a.ret.ret.indication
        wear := match a.ret.ret.sample with
          | none => x.wear
          | some w => if 5 ≤ x.wear.length then (x.wear ++ [w]).drop 1 else x.wear ++ [w]
        coasted := if x.state = .coasting then 0 else x.coasted
        mergedWith := x.mergedWith, previousPartner := x.mergedWith
        state := if x.state = .tentative ∧ after.hits ≠ t.confirmHits then .tentative else .confirmed } := by
  have hclamp : ∀ v, clamp (-20000) 20000 v = max (-20000) (min 20000 v) := clamp_eq (by decide)
  simp only [Track.settled, hitTrack, Track.hit, pushSample_eq, newRate, hclamp, if_neg hx, satAdd]

/-- R104, R105, in the words of the statement. -/
theorem missTrack_settled_eq {t : TrackingSet} {travel : Int} {x : Track}
    (hx : x.state = .confirmed ∨ x.state = .coasting ∧ ¬ t.coastDistance < min 11000 (x.coasted + travel.toNat)) (d : Int) :
    let after := (missTrack t travel x).settled d
    ((x.state = .confirmed ∧ after.coasted = 0)
        ∨ (x.state = .coasting ∧ after.coasted = min 11000 (x.coasted + travel.toNat) ∧ after.coasted ≤ t.coastDistance))
      ∧ after =
          { x with
            state := .coasting, coasted := after.coasted, hits := 0, peak := none, indication := none
            previousPartner := x.mergedWith, mergedDistance := after.mergedDistance } := by
  have hwire : (missTrack t travel x).state.isWire = true ∧ (missTrack t travel x).coasted =
      if x.state = .confirmed then 0 else min 11000 (x.coasted + travel.toNat) := by
    rcases hx with hx | ⟨hx, hnear⟩
    · rw [missTrack, hx]
      exact ⟨rfl, rfl⟩
    · rw [missTrack, hx]
      dsimp only
      rw [if_neg hnear, Track.coast, Track.miss, hx]
      exact ⟨rfl, rfl⟩
  obtain ⟨hwire, hcoasted⟩ := hwire
  refine ⟨?_, by rw [(missTrack_of_wire t hwire).2]; rfl⟩
  dsimp only [Track.settled]
  rw [hcoasted]
  rcases hx with hx | ⟨hx, hnear⟩
  · exact .inl ⟨hx, if_pos hx⟩
  · rw [if_neg (by rw [hx]; decide)]
    exact .inr ⟨hx, rfl, not_lt.mp hnear⟩

/-- Settles O48: each slot has one of nine stories, and the outcome tells which. -/
theorem tracksFollowTheirHits : Obligations.TracksFollowTheirHits := by
  refine ⟨fun scan s => ⟨rfl, rfl, fun k => ?_⟩, fun w _ => ⟨fun hshort => by rw [wearValue, if_pos hshort], wearValue_median w⟩⟩
  intro before after told result rated
  have hm := matchScan_sound s.cfg.tracking s.mark.zone s.trk.tracks scan
  have hstory := slotStory hm s.cfg.tracking s.trk scan.position k
  have hx := matchScan_get s.cfg.tracking s.mark.zone s.trk.tracks scan k
  generalize hmatch : matchScan s.cfg.tracking s.mark.zone s.trk.tracks scan = m at hstory hx ⊢
  have htold : told = slotOutcome before scan.position (m.tracks.get k).mergedWith (m.assigned.get k)
      ((runSteps s.cfg.tracking s.trk scan.position m).confirmed.get k)
      ((runSteps s.cfg.tracking s.trk scan.position m).ended.get k) after := by
    rw [← hmatch]
    exact Four.get_tabulate _ k
  have hafter : after = (runSteps s.cfg.tracking s.trk scan.position m).tracks.get k := by rw [← hmatch]; rfl
  have hlive : (s.track scan).1.live.tracks.get k =
      if before.inUse || after.inUse then liveOf after else s.live.tracks.get k := by
    have hkept : (State.raiseSlotsFull (runSteps s.cfg.tracking s.trk scan.position m).full
        (State.emitAllAt scan.position (runSteps s.cfg.tracking s.trk scan.position m).events s)).live = s.live := by
      rw [State.raiseSlotsFull_live, State.emitAllAt_eq]
    rw [← hkept, ← hmatch]
    exact Four.get_tabulate _ k
  have hstate : before.state = (m.tracks.get k).state := by rw [hx]
  have hended : told.ended = (runSteps s.cfg.tracking s.trk scan.position m).ended.get k := by rw [htold]; rfl
  have hresult : result = slotResult (m.tracks.get k).state
      ((runSteps s.cfg.tracking s.trk scan.position m).tracks.get k).state (m.assigned.get k)
      ((runSteps s.cfg.tracking s.trk scan.position m).ended.get k) := by
    rw [← hstate, ← hafter]
    simp only [result, htold, slotOutcome]
  rw [← hafter, ← hended] at hstory
  rw [← hended, ← hafter] at hresult
  rw [← hresult] at hstory
  rw [hstate]
  refine ⟨by rw [htold]; rfl, by rw [htold]; rfl, fun _ a ha => hstory.result_of_hit ha,
    fun hused ha => hstory.result_of_none hused ha, fun hfree => hstory.of_free hfree,
    fun h => hstory.of_ended h, fun h => hstory.of_none h, fun h => ?taken, fun h => ?missed,
    fun h => hstory.of_new h, fun h => hstory.of_ended_alone h, fun h => hstory.of_endedAndNew h, fun hw hw' => ?id, ?live⟩
  case taken =>
    obtain ⟨a, id, d, ha, hshared, hused, htaken⟩ := hstory.of_taken h
    refine ⟨a, ha, hshared, hused, by rw [htold, ha]; rfl, by rw [htold, ha]; rfl, ?_⟩
    have heq := hitTrack_settled_eq (t := s.cfg.tracking) hused scan.position a id d
    dsimp only at heq
    rw [← htaken] at heq
    simp only [hx] at heq ⊢
    exact heq
  case missed =>
    obtain ⟨ha, hmissed⟩ := hstory.of_miss h
    refine ⟨by rw [htold, ha]; rfl, by rw [htold, ha]; rfl, hmissed.imp_right ?_⟩
    rintro ⟨d, hmiss, hold⟩
    have heq := missTrack_settled_eq hold d
    dsimp only at heq
    rw [← hmiss] at heq
    simp only [hx] at heq ⊢
    exact heq
  case id =>
    rw [hstory.wireId hw hw', hx]
  case live =>
    have hused : (before.inUse || after.inUse) = true ↔ ¬ (before.state = .free ∧ after.state = .free) := by
      rw [Bool.or_eq_true, Track.inUse_iff, Track.inUse_iff]
      tauto
    rw [← hstate, hlive, ite_congr (propext hused) (fun _ => rfl) fun _ => rfl, ite_not]
    rfl

end Sys2Proof.Machine
end

section
/-! What a scan confirms, starts and ends (statement O49). -/

namespace Sys2Proof.Machine

/-! ### Ids (R103) -/

theorem confirmIds_fst (before : Four Track) (confirms : Slot → Bool) (ks : List Slot) (n : Nat) :
    (confirmIds before confirms ks n).map Prod.fst = ks.filter confirms := by
  induction ks generalizing n with
  | nil => rfl
  | cons k ks ih =>
    rw [confirmIds, List.map_append, ih, List.filter_cons]
    cases confirms k <;> rfl

/-- The ids and the counter, as they are counted along the confirming slots. -/
theorem confirmIds_foldl (before : Four Track) (confirms : Slot → Bool) (ks : List Slot) (ids : List Nat) (n : Nat) :
    (ks.filter confirms).foldl
        (fun (x : List Nat × Nat) _ => (x.1 ++ [freeId before 4 x.2], idAfter (freeId before 4 x.2))) (ids, n) =
      (ids ++ (confirmIds before confirms ks n).map Prod.snd, counterAfter before confirms ks n) := by
  induction ks generalizing ids n with
  | nil => simp [confirmIds, counterAfter]
  | cons k ks ih =>
    rw [List.filter_cons, confirmIds, counterAfter]
    cases confirms k with
    | false => exact ih ids n
    | true =>
      rw [if_pos rfl, if_pos rfl, if_pos rfl, List.foldl_cons, ih, List.append_assoc, List.map_append]
      rfl

theorem idTaken_of_mem {ids : List (Slot × Nat)} (hnodup : (ids.map Prod.fst).Nodup) {q : Slot × Nat} (hq : q ∈ ids) :
    idTaken ids q.1 = q.2 := by
  induction ids with
  | nil => exact absurd hq List.not_mem_nil
  | cons p ids ih =>
    obtain ⟨j, i⟩ := p
    rw [List.map_cons, List.nodup_cons] at hnodup
    rw [idTaken_cons]
    rcases List.mem_cons.mp hq with rfl | hq
    · exact if_pos rfl
    · have hmem : q.1 ∈ ids.map Prod.fst := List.mem_map_of_mem hq
      have hne : j ≠ q.1 := fun heq => hnodup.1 (by rw [heq]; exact hmem)
      rw [if_neg hne, ih hnodup.2 hq]

section
variable (t : TrackingSet) (trk : Tracker) (pos : Int) (m : Matching)

theorem Matching.ids_fst : (m.ids t trk).map Prod.fst = Ix.all.filter (m.confirms t) := confirmIds_fst _ _ _ _

theorem Matching.ids_nodup : ((m.ids t trk).map Prod.fst).Nodup := by
  rw [Matching.ids_fst]
  exact List.Nodup.filter _ (by decide)

/-- The events of step 5, slot by slot. -/
theorem Matching.ids_events :
    (m.ids t trk).map (confirmedEvent m.assigned) =
      (Ix.all.filter (m.confirms t)).map fun k => confirmedEvent m.assigned (k, idTaken (m.ids t trk) k) := by
  rw [← Matching.ids_fst t trk m, List.map_map]
  refine List.map_congr_left fun q hq => ?_
  rw [Function.comp_apply, idTaken_of_mem (m.ids_nodup t trk) hq]

/-! ### A slot after steps 5 and 6 -/

theorem Matching.confirms_iff (k : Slot) :
    m.confirms t k = true ↔ (m.tracks.get k).state = .tentative ∧ (m.assigned.get k).isSome = true
      ∧ min 65535 ((m.tracks.get k).hits + 1) = t.confirmHits := by
  simp only [Matching.confirms, confirmsBy, Bool.and_eq_true, decide_eq_true_eq, and_assoc]

/-- The slots that hold a wire after step 6. -/
theorem Matching.left_isWire (k : Slot) :
    (m.left t trk pos k).state.isWire =
      (((m.tracks.get k).state.isWire || m.confirms t k) && !m.coastsOut t trk pos k) := by
  cases ha : m.assigned.get k with
  | some a =>
    have hcoasts : m.coastsOut t trk pos k = false := by rw [Matching.coastsOut, ha, coastsOut_some]
    rw [Matching.left_of_hit t trk pos m ha, hcoasts, Bool.not_false, Bool.and_true, Matching.confirms, ha]
    cases hconfirms : confirmsBy t (some a) (m.tracks.get k) with
    | false => rw [Bool.or_false]; exact (servedTrack_wire hconfirms pos _).1
    | true =>
      have hstate : (hitTrack t pos a (idTaken (m.ids t trk) k) (m.tracks.get k)).state = .confirmed :=
        (servedTrack_of_confirms hconfirms pos _).1
      rw [hstate, Bool.or_true]
      rfl
  | none =>
    rw [Matching.left_of_none t trk pos m ha, Matching.confirms, Matching.coastsOut, ha, confirmsBy_none, Bool.or_false,
      missTrack, Machine.coastsOut]
    cases hx : (m.tracks.get k).state with
    | free => rw [hx]; rfl
    | tentative => rfl
    | confirmed => rfl
    | coasting =>
      by_cases hfar : t.coastDistance < min 11000 ((m.tracks.get k).coasted + (trk.travel pos).toNat)
      · simp [hfar, Track.empty, TrackState.isWire]
      · simp [hfar, Track.coast, Track.miss, hx, TrackState.isWire]

/-- The slots that are FREE after step 6. -/
theorem Matching.left_free_iff (hm : m.Sound) (k : Slot) :
    (m.left t trk pos k).state = .free ↔ (m.tracks.get k).state = .free
      ∨ ((m.tracks.get k).state = .tentative ∧ m.assigned.get k = none) ∨ m.coastsOut t trk pos k = true := by
  rw [Matching.coastsOut_iff]
  cases ha : m.assigned.get k with
  | some a =>
    have hx := hm.assigned k a ha
    rw [Matching.left_of_hit t trk pos m ha]
    simp [hx, hitTrack_state_ne_free hx]
  | none =>
    rw [Matching.left_of_none t trk pos m ha, missTrack]
    cases hx : (m.tracks.get k).state with
    | free => simp [hx]
    | tentative => simp [Track.empty]
    | confirmed => simp
    | coasting =>
      by_cases hfar : t.coastDistance < min 11000 ((m.tracks.get k).coasted + (trk.travel pos).toNat)
      · simp [hfar, Track.empty]
      · simp [hfar, Track.coast, Track.miss, hx]

/-- A TENTATIVE track that misses and a track that coasts out leave nothing. -/
theorem Matching.left_empty {k : Slot} (h : ((m.tracks.get k).state = .tentative ∧ m.assigned.get k = none)
    ∨ m.coastsOut t trk pos k = true) : m.left t trk pos k = .empty := by
  rw [Matching.coastsOut_iff] at h
  rcases h with ⟨hx, ha⟩ | ⟨hx, ha, hfar⟩
  · rw [Matching.left_of_none t trk pos m ha, missTrack, hx]
  · rw [Matching.left_of_none t trk pos m ha, missTrack, hx]
    exact if_pos hfar

/-- What a wire after step 6 has kept, and the id that it has. -/
theorem Matching.left_of_wire {k : Slot} (h : (m.left t trk pos k).state.isWire = true) :
    (m.left t trk pos k).previousPartner = (m.tracks.get k).previousPartner
      ∧ (m.left t trk pos k).mergedDistance = (m.tracks.get k).mergedDistance
      ∧ (m.left t trk pos k).lastHit = (if (m.assigned.get k).isSome then pos else (m.tracks.get k).lastHit)
      ∧ (m.left t trk pos k).wireId =
          if m.confirms t k then some (idTaken (m.ids t trk) k) else (m.tracks.get k).wireId := by
  rw [Matching.confirms]
  cases ha : m.assigned.get k with
  | some a => rw [Matching.left_of_hit t trk pos m ha]; exact ⟨rfl, rfl, rfl, rfl⟩
  | none =>
    rw [Matching.left_of_none t trk pos m ha] at h ⊢
    rw [(missTrack_of_wire t h).2, confirmsBy_none]
    exact ⟨rfl, rfl, rfl, rfl⟩

/-- The id of a wire after step 6, as a number. -/
theorem Matching.left_id {k : Slot} (h : (m.left t trk pos k).state.isWire = true) :
    (m.left t trk pos k).wireId.getD 0 =
      if (m.tracks.get k).state.isWire then (m.tracks.get k).wireId.getD 0 else idTaken (m.ids t trk) k := by
  obtain ⟨-, -, -, hid⟩ := Matching.left_of_wire t trk pos m h
  rw [hid]
  rw [Matching.left_isWire, Bool.and_eq_true, Bool.or_eq_true] at h
  cases hwire : (m.tracks.get k).state.isWire with
  | true =>
    have hconfirms : ¬ m.confirms t k = true := fun hconfirms => by
      rw [((Matching.confirms_iff t m k).mp hconfirms).1] at hwire
      cases hwire
    rw [if_neg hconfirms, if_pos rfl]
  | false =>
    rw [hwire] at h
    rw [if_pos (h.1.resolve_left (by decide)), if_neg (by decide)]
    rfl

/-! ### Steps 7 and 8 -/

theorem afterStarts_isWire (k : Slot) :
    ((afterStarts t trk pos m).tracks.get k).state.isWire = (m.left t trk pos k).state.isWire := by
  rcases afterStarts_get t trk pos m k with h | ⟨hfree, r, h⟩
  · rw [h]
  · rw [h, hfree]
    rfl

theorem afterStarts_of_left_wire {k : Slot} (h : (m.left t trk pos k).state.isWire = true) :
    (afterStarts t trk pos m).tracks.get k = m.left t trk pos k :=
  afterStarts_of_wire t trk pos m (by rw [afterStarts_isWire, h])

/-- R108. -/
def Matching.together (j k : Slot) : Int :=
  if (m.tracks.get j).previousPartner = some k then (m.tracks.get j).mergedDistance + trk.travel pos else trk.travel pos

/-- R108, for a wire after step 6. -/
theorem afterMerging_mergedDistance {k : Slot} (h : (m.left t trk pos k).state.isWire = true) :
    ((afterMerging t trk pos m).tracks.get k).mergedDistance =
      match (m.tracks.get k).mergedWith with
      | some p => if (m.left t trk pos p).state.isWire then m.together trk pos k p else 0
      | none => 0 := by
  obtain ⟨hpartner, hdistance, -⟩ := Matching.left_of_wire t trk pos m h
  rw [afterMerging_get]
  dsimp only
  rw [afterStarts_of_left_wire t trk pos m h, mergedDistanceOf, Matching.left_mergedWith t trk pos m h, h]
  cases (m.tracks.get k).mergedWith with
  | none => rfl
  | some p => simp only [afterStarts_isWire, Bool.true_and, hpartner, hdistance, Matching.together]

/-- R109, as the statement says it. -/
theorem loses_afterMerging_iff (j k : Slot) :
    loses t (afterMerging t trk pos m).tracks j k = true ↔
      (m.tracks.get j).mergedWith = some k ∧ j.num < k.num ∧ (m.left t trk pos j).state.isWire = true
        ∧ (m.left t trk pos k).state.isWire = true ∧ (t.duplicateLength : Int) < m.together trk pos j k := by
  have hpartner : (m.left t trk pos j).state.isWire = true →
      ((afterMerging t trk pos m).tracks.get j).mergedWith = (m.tracks.get j).mergedWith := fun hwire => by
    rw [afterMerging_get]
    dsimp only
    rw [afterStarts_of_left_wire t trk pos m hwire, Matching.left_mergedWith t trk pos m hwire]
  constructor
  · intro h
    obtain ⟨⟨hwirej, -⟩, ⟨hwirek, -⟩⟩ := wires_of_loses t trk pos m h
    obtain ⟨hmerged, hlt, hfar⟩ := (loses_iff _ _ _ _).mp h
    rw [hpartner hwirej] at hmerged
    rw [afterMerging_mergedDistance t trk pos m hwirej, hmerged] at hfar
    dsimp only at hfar
    rw [if_pos hwirek] at hfar
    exact ⟨hmerged, hlt, hwirej, hwirek, hfar⟩
  · rintro ⟨hmerged, hlt, hwirej, hwirek, hfar⟩
    refine (loses_iff _ _ _ _).mpr ⟨(hpartner hwirej).trans hmerged, hlt, ?_⟩
    rw [afterMerging_mergedDistance t trk pos m hwirej, hmerged]
    dsimp only
    rw [if_pos hwirek]
    exact hfar

/-- The event of a duplicate, from the tracks before the scan. -/
theorem duplicateEvent_eq {j k : Slot} (h : loses t (afterMerging t trk pos m).tracks j k = true) :
    duplicateEvent (afterMerging t trk pos m).tracks j k =
        .trackEnded k (if (m.tracks.get k).state.isWire then (m.tracks.get k).wireId.getD 0 else idTaken (m.ids t trk) k)
          .duplicate (if (m.assigned.get k).isSome then pos else (m.tracks.get k).lastHit)
          ((afterMerging t trk pos m).tracks.get j).wireId
      ∧ duplicateEnding (afterMerging t trk pos m).tracks k =
          { wireId := if (m.tracks.get k).state.isWire then (m.tracks.get k).wireId.getD 0
                      else idTaken (m.ids t trk) k
            reason := .duplicate } := by
  obtain ⟨-, hwire, heq⟩ := wires_of_loses t trk pos m h
  obtain ⟨-, -, hlast, -⟩ := Matching.left_of_wire t trk pos m hwire
  have hid := Matching.left_id t trk pos m hwire
  have hget : ((afterMerging t trk pos m).tracks.get k).wireId = (m.left t trk pos k).wireId
      ∧ ((afterMerging t trk pos m).tracks.get k).lastHit = (m.left t trk pos k).lastHit := by
    rw [afterMerging_get]
    dsimp only
    rw [heq]
    exact ⟨rfl, rfl⟩
  rw [duplicateEvent, duplicateEnding, hget.1, hget.2, hid, hlast]
  exact ⟨rfl, rfl⟩

end

/-! ### The whole scan -/

section
variable {m : Matching} (hm : m.Sound) (t : TrackingSet) (trk : Tracker) (pos : Int)
include hm

/-- The events of the steps, in their order. -/
theorem runSteps_events :
    (runSteps t trk pos m).events =
      ((Ix.all.filter (m.confirms t)).map fun k => confirmedEvent m.assigned (k, idTaken (m.ids t trk) k))
        ++ ((Ix.all.filter (m.coastsOut t trk pos)).map fun k => coastedOutEvent k (m.tracks.get k))
        ++ Ix.all.flatMap fun j => (Ix.all.filter (loses t (afterMerging t trk pos m).tracks j)).map
            (duplicateEvent (afterMerging t trk pos m).tracks j) := by
  have hmerging : (afterMerging t trk pos m).events = (afterMisses t trk pos m).events :=
    (starts_over_all t trk pos m).events
  have hcoasting : (Ix.all.filter fun k => coastsOut t (trk.travel pos) (m.assigned.get k)
      ((afterHits t trk pos m).tracks.get k)) = Ix.all.filter (m.coastsOut t trk pos) :=
    List.filter_congr fun k _ => coastsOut_afterHits t trk pos m k
  have hcoasted : ((Ix.all.filter (m.coastsOut t trk pos)).map fun k =>
        coastedOutEvent k ((afterHits t trk pos m).tracks.get k)) =
      (Ix.all.filter (m.coastsOut t trk pos)).map fun k => coastedOutEvent k (m.tracks.get k) :=
    List.map_congr_left fun k hk => by rw [afterHits_of_coastsOut t trk pos m (List.mem_filter.mp hk).2]
  rw [(runSteps_duplicates hm t trk pos).events, hmerging, (misses_over_all t trk pos m).events, hcoasting, hcoasted,
    (hits_over_all t trk pos m).events]
  exact congrArg (fun es => es ++ _ ++ _) (m.ids_events t trk)

theorem runSteps_full :
    (runSteps t trk pos m).full =
      ((untaken m.assigned m.indexed).drop (freeSlots (afterMisses t trk pos m).tracks).length).map
        fun r => roundDiv r.ret.s 100 := by
  have hmerging : (afterMerging t trk pos m).full = (afterStarts t trk pos m).full := rfl
  rw [(runSteps_duplicates hm t trk pos).full, hmerging, (starts_over_all t trk pos m).full,
    (misses_over_all t trk pos m).full, (hits_over_all t trk pos m).full]
  rfl

theorem runSteps_nextId :
    (runSteps t trk pos m).nextId = counterAfter m.tracks (m.confirms t) Ix.all trk.nextId := by
  have hmerging : (afterMerging t trk pos m).nextId = (afterStarts t trk pos m).nextId := rfl
  rw [(runSteps_duplicates hm t trk pos).nextId, hmerging, (starts_over_all t trk pos m).nextId,
    (misses_over_all t trk pos m).nextId, (hits_over_all t trk pos m).nextId]
  rfl

theorem runSteps_confirmed (k : Slot) : (runSteps t trk pos m).confirmed.get k = m.confirms t k := by
  have hmerging : (afterMerging t trk pos m).confirmed = (afterStarts t trk pos m).confirmed := rfl
  rw [(runSteps_duplicates hm t trk pos).confirmed, hmerging, (starts_over_all t trk pos m).confirmed,
    (misses_over_all t trk pos m).confirmed, (hits_over_all t trk pos m).confirmed k (Ix.mem_all k)]
  exact (congrArg (m.confirms t k || ·) (Four.get_const _ _)).trans (Bool.or_false _)

omit hm in
/-- A slot without a wire after step 7 is nobody's duplicate. -/
theorem loses_of_unwired {k : Slot} (h : ((afterStarts t trk pos m).tracks.get k).state.isWire = false) (j : Slot) :
    loses t (afterMerging t trk pos m).tracks j k = false := by
  rw [← Bool.not_eq_true]
  intro hl
  obtain ⟨-, hwire, -⟩ := wires_of_loses t trk pos m hl
  rw [afterStarts_isWire, hwire] at h
  cases h

/-- A slot without a wire after step 7 stays as it is. -/
theorem runSteps_of_unwired {k : Slot} (h : ((afterStarts t trk pos m).tracks.get k).state.isWire = false) :
    (runSteps t trk pos m).tracks.get k = ((afterStarts t trk pos m).tracks.get k).settled 0 := by
  obtain ⟨⟨d, htrack, hd⟩, -⟩ := runSteps_get_of_not_lost hm (loses_of_unwired t trk pos h)
  rw [htrack, hd h]

/-- A track that confirms and is nobody's duplicate. -/
theorem runSteps_of_confirms {k : Slot} (hc : m.confirms t k = true)
    (hsafe : ∀ j, loses t (afterMerging t trk pos m).tracks j k = false) :
    ((runSteps t trk pos m).tracks.get k).state = .confirmed
      ∧ ((runSteps t trk pos m).tracks.get k).wireId = some (idTaken (m.ids t trk) k) := by
  obtain ⟨⟨d, htrack, -⟩, -⟩ := runSteps_get_of_not_lost hm hsafe
  obtain ⟨a, ha⟩ := Option.isSome_iff_exists.mp ((Matching.confirms_iff t m k).mp hc).2.1
  rw [Matching.confirms, ha] at hc
  obtain ⟨hstate, hid, -⟩ := servedTrack_of_confirms hc pos (idTaken (m.ids t trk) k)
  have hleft := Matching.left_of_hit t trk pos m ha
  have hwire : (m.left t trk pos k).state.isWire = true := by
    rw [hleft]
    exact (congrArg TrackState.isWire hstate).trans rfl
  rw [htrack, afterStarts_of_left_wire t trk pos m hwire, hleft]
  exact ⟨hstate, hid⟩

/-- A FREE slot that a return reaches. -/
theorem runSteps_started {n : Nat} {k : Slot} {r : Indexed} (hk : (freeSlots (afterMisses t trk pos m).tracks)[n]? = some k)
    (hr : (untaken m.assigned m.indexed)[n]? = some r) :
    (runSteps t trk pos m).tracks.get k = newTrack pos r.ret := by
  have hnew := (starts_over_all t trk pos m).started n k r hk hr
  rw [runSteps_of_unwired hm t trk pos (by rw [hnew]; rfl), hnew]
  rfl

/-- A FREE slot that no return reaches. -/
theorem runSteps_unstarted {n : Nat} {k : Slot} (hk : (freeSlots (afterMisses t trk pos m).tracks)[n]? = some k)
    (hr : (untaken m.assigned m.indexed)[n]? = none) :
    (m.left t trk pos k).state = .free ∧ (runSteps t trk pos m).tracks.get k = (m.left t trk pos k).settled 0 := by
  have hfree := mem_freeSlots.mp (List.mem_of_getElem? hk)
  have hleft := (starts_over_all t trk pos m).unstarted n k hk hr
  rw [afterMisses_get] at hfree hleft
  refine ⟨hfree, ?_⟩
  rw [runSteps_of_unwired hm t trk pos (by rw [hleft, hfree]; rfl), hleft]

theorem runSteps_ended_of_coastsOut {k : Slot} (h : m.coastsOut t trk pos k = true) :
    (runSteps t trk pos m).ended.get k = some (coastedOutEnding (m.tracks.get k)) := by
  have hnot : ((afterStarts t trk pos m).tracks.get k).state.isWire = false := by
    rw [afterStarts_isWire, Matching.left_isWire, h, Bool.not_true, Bool.and_false]
  rw [(runSteps_get_of_not_lost hm (loses_of_unwired t trk pos hnot)).2, if_pos h]

end

end Sys2Proof.Machine
end

section
/-! What a scan makes besides its hits and misses (statement O49). -/

namespace Sys2Proof.Machine

/-- Events produced one after another. -/
theorem foldl_rep {α : Type} (f : Report → α → Report) (xs : List α) (s : State) :
    xs.foldl (fun (t : State) x => { t with rep := f t.rep x }) s = { s with rep := xs.foldl f s.rep } := by
  induction xs generalizing s with
  | nil => rfl
  | cons x xs ih => rw [List.foldl_cons, ih]; rfl

theorem State.raiseSlotsFull_trk (vs : List Int) (s : State) : (s.raiseSlotsFull vs).trk = s.trk := by
  induction vs generalizing s with
  | nil => rfl
  | cons v vs ih => rw [State.raiseSlotsFull, ih, State.raise_eq]

/-- What a scan changes besides the tracks and their live slots. -/
theorem State.track_besides (scan : Scan) (s : State) :
    { (s.track scan).1 with trk := s.trk, live := s.live } =
      State.raiseSlotsFull
        (runSteps s.cfg.tracking s.trk scan.position (matchScan s.cfg.tracking s.mark.zone s.trk.tracks scan)).full
        { s with
          rep := (runSteps s.cfg.tracking s.trk scan.position
              (matchScan s.cfg.tracking s.mark.zone s.trk.tracks scan)).events.foldl
            (fun q b => q.produce s.pos s.timeMs scan.position b) s.rep } := by
  rw [State.track]
  dsimp only
  rw [State.emitAllAt_eq]
  have hrest : ∀ t : State, t.trk = s.trk → t.live = s.live → { t with trk := s.trk, live := s.live } = t := by
    intro t htrk hlive
    rw [← htrk, ← hlive]
  exact hrest _ (State.raiseSlotsFull_trk _ _) (State.raiseSlotsFull_live _ _)

theorem tookReturn_eq (a : Four (Option Assigned)) (k : Slot) (i : Nat) :
    (match a.get k with
      | some x => decide (x.ret.index ≠ i)
      | none => true) = !tookReturn a k i := by
  rw [tookReturn]
  cases a.get k with
  | none => rfl
  | some x => simp

theorem pushSample_nil (x : Option WearSample) : pushSample [] x = x.toList := by cases x <;> rfl

/-- Settles O49: the statement counts from the tracks before the scan what the four stages make, each stage by its own
lemma. -/
theorem scansConfirmStartAndEndTracks : Obligations.ScansConfirmStartAndEndTracks := by
  intro scan s out m travel slots before after told wire advance held skipHeld firstFree confirms confirming ids coastedOut
    dropped open_ starting wired together loses doubled idOf lastHit value events
  have hm : m.Sound := matchScan_sound s.cfg.tracking s.mark.zone s.trk.tracks scan
  have hget : ∀ k, m.tracks.get k = { before k with mergedWith := (m.tracks.get k).mergedWith } := fun k => by
    rw [matchScan_mergedWith]
    exact matchScan_get s.cfg.tracking s.mark.zone s.trk.tracks scan k
  have hstate : ∀ k, (m.tracks.get k).state = (before k).state := fun k => by rw [hget k]
  have hid : ∀ k, (m.tracks.get k).wireId = (before k).wireId := fun k => by rw [hget k]
  have hlastHit : ∀ k, (m.tracks.get k).lastHit = (before k).lastHit := fun k => by rw [hget k]
  have hwire : wire = TrackState.isWire := funext fun x => (TrackState.isWire_eq x).symm
  have hconfirms : ∀ k, confirms k = m.confirms s.cfg.tracking k := fun k => by
    rw [Matching.confirms, hget k]
    rfl
  have hcoasts : ∀ k, coastedOut k = m.coastsOut s.cfg.tracking s.trk scan.position k := fun k => by
    rw [Matching.coastsOut, hget k]
    rfl
  have hfirst : firstFree = freeId m.tracks 4 := by
    have hheld : ∀ n, held n = idHeld m.tracks n := fun n => by
      rw [Bool.eq_iff_iff, idHeld_eq_true_iff, List.any_eq_true]
      simp only [hwire, Bool.and_eq_true, decide_eq_true_eq, hstate, hid]
      exact exists_congr fun k => and_iff_right (Ix.mem_all k)
    have hskip : skipHeld = Machine.skipHeld m.tracks := by
      funext n
      rw [Machine.skipHeld, ← hheld]
      rfl
    funext n
    rw [freeId_eq_skipHeld, ← hskip]
    rfl
  have hconfirming : confirming = Ix.all.filter (m.confirms s.cfg.tracking) :=
    List.filter_congr fun k _ => hconfirms k
  have hids : ids = ((m.ids s.cfg.tracking s.trk).map Prod.snd,
      counterAfter m.tracks (m.confirms s.cfg.tracking) Ix.all s.trk.nextId) := by
    have hcounted := confirmIds_foldl m.tracks (m.confirms s.cfg.tracking) Ix.all [] s.trk.nextId
    rw [← hfirst, ← hconfirming] at hcounted
    exact hcounted
  have hidOf : ∀ k, idOf k = if (m.tracks.get k).state.isWire then (m.tracks.get k).wireId.getD 0
      else idTaken (m.ids s.cfg.tracking s.trk) k := fun k => by
    have hzip : confirming.zip ids.1 = m.ids s.cfg.tracking s.trk := by
      rw [hconfirming, hids, ← Matching.ids_fst s.cfg.tracking s.trk m]
      exact (List.zip_of_prod rfl rfl).symm
    simp only [idOf, hzip, hwire, hstate, hid]
    rfl
  have hwired : ∀ k, wired k = (m.left s.cfg.tracking s.trk scan.position k).state.isWire := fun k => by
    rw [Matching.left_isWire, hstate, ← hconfirms, ← hcoasts, ← hwire]
  have htogether : ∀ j k, together j k = m.together s.trk scan.position j k := fun j k => by
    rw [Matching.together, hget j]
    rfl
  have hloses : ∀ j k, loses j k = Machine.loses s.cfg.tracking (afterMerging s.cfg.tracking s.trk scan.position m).tracks j k := fun j k => by
    rw [Bool.eq_iff_iff, loses_afterMerging_iff, ← htogether, ← hwired, ← hwired]
    simp only [loses, Bool.and_eq_true, decide_eq_true_eq, and_assoc]
  have hopen : open_ = freeSlots (afterMisses s.cfg.tracking s.trk scan.position m).tracks := by
    refine List.filter_congr fun k _ => ?_
    rw [Bool.eq_iff_iff, Bool.not_eq_true', ← Bool.not_eq_true, Track.inUse_iff, not_not, afterMisses_get,
      Matching.left_free_iff _ _ _ _ hm, hstate, ← hcoasts]
    simp only [dropped, Bool.or_eq_true, Bool.and_eq_true, decide_eq_true_eq, Option.isNone_iff_eq_none, or_assoc]
  have hstarting : starting = untaken m.assigned m.indexed := by
    refine List.filter_congr fun r _ => ?_
    have hall : isAssigned m.assigned r.index = Ix.all.any fun k => tookReturn m.assigned k r.index := rfl
    rw [hall, List.not_any_eq_all_not, Bool.and_comm, ← funext fun k => tookReturn_eq m.assigned k r.index]
    rfl
  have hafter : ∀ k, after k = (runSteps s.cfg.tracking s.trk scan.position m).tracks.get k := fun _ => rfl
  have htold : ∀ k, (told k).ended = (runSteps s.cfg.tracking s.trk scan.position m).ended.get k := fun k =>
    congrArg SlotOutcome.ended (Four.get_tabulate _ k)
  have hdup := runSteps_duplicates hm s.cfg.tracking s.trk scan.position
  have hsurvives : ∀ k, (∀ j ∈ slots, loses j k = false) →
      ∀ j, Machine.loses s.cfg.tracking (afterMerging s.cfg.tracking s.trk scan.position m).tracks j k = false :=
    fun k hsafe j => by rw [← hloses]; exact hsafe j (Ix.mem_all j)
  refine ⟨?nextId, fun k _ => ?confirmed, fun k hk hsafe => ?confirming, fun n k r hk hr => ?started, fun n k hk hr => ?unstarted,
    fun k _ hcoasted => ?coasted, fun j k hl => ?lost, fun k _ hcoasted hsafe => ?unended, fun k _ hw hsafe => ?distance, ?besides⟩
  case nextId =>
    rw [hids]
    exact runSteps_nextId hm s.cfg.tracking s.trk scan.position
  case confirmed =>
    rw [hconfirms, ← runSteps_confirmed hm s.cfg.tracking s.trk scan.position]
    exact congrArg SlotOutcome.confirmed (Four.get_tabulate _ k)
  case confirming =>
    rw [hconfirming, List.mem_filter] at hk
    obtain ⟨htentative, -⟩ := (Matching.confirms_iff _ _ _).mp hk.2
    rw [hidOf, htentative]
    exact runSteps_of_confirms hm _ _ _ hk.2 (hsurvives k hsafe)
  case started =>
    rw [hopen] at hk
    rw [hstarting] at hr
    rw [hafter, runSteps_started hm _ _ _ hk hr, newTrack, pushSample_nil]
  case unstarted =>
    rw [hopen] at hk
    rw [hstarting] at hr
    obtain ⟨hfree, htrack⟩ := runSteps_unstarted hm _ _ _ hk hr
    rw [hafter, htrack]
    refine ⟨hfree, fun hgone => ?_⟩
    rw [Matching.left_empty s.cfg.tracking s.trk scan.position m (k := k) (hgone.imp (fun h => ?_) fun h => ?_)]
    · rfl
    · rw [hstate]
      simpa [dropped] using h
    · rw [← hcoasts, h]
  case coasted =>
    rw [hcoasts] at hcoasted
    obtain ⟨hcoasting, -⟩ := (Matching.coastsOut_iff _ _ _ _ _).mp hcoasted
    rw [htold, runSteps_ended_of_coastsOut hm _ _ _ hcoasted, hidOf, hcoasting]
    rfl
  case lost =>
    rw [hloses] at hl
    obtain ⟨hempty, hended⟩ := hdup.lost j (Ix.mem_all j) k hl
    have hwon := hdup.won j (Ix.mem_all j) k hl
    refine ⟨(hafter k).trans hempty, ?_, ?_⟩
    · rw [htold, hended, (duplicateEvent_eq _ _ _ _ hl).2, hidOf]
    · rw [hafter, hwon]
  case unended =>
    obtain ⟨-, hended⟩ := runSteps_get_of_not_lost hm (hsurvives k hsafe)
    rw [htold, hended, ← hcoasts, hcoasted]
    rfl
  case distance =>
    have hkept := hdup.kept k (fun j _ => hsurvives k (fun j hj => (hsafe j hj).1) j)
      (.inr fun i => by rw [← hloses]; exact (hsafe i (Ix.mem_all i)).2)
    rw [hwired] at hw
    rw [hafter, hkept, afterMerging_mergedDistance _ _ _ _ hw]
    cases (m.tracks.get k).mergedWith with
    | none => rfl
    | some p =>
      dsimp only
      rw [hwired, htogether]
  case besides =>
    have hconfirmed : (Ix.all.filter (m.confirms s.cfg.tracking)).map
          (fun k => confirmedEvent m.assigned (k, idTaken (m.ids s.cfg.tracking s.trk) k)) =
        confirming.map fun k => .trackConfirmed k (idOf k) (value k).1 (value k).2 := by
      rw [hconfirming]
      refine List.map_congr_left fun k hk => ?_
      obtain ⟨htentative, htook, -⟩ := (Matching.confirms_iff _ _ _).mp (List.mem_filter.mp hk).2
      obtain ⟨a, ha⟩ := Option.isSome_iff_exists.mp htook
      rw [hidOf, htentative]
      simp only [confirmedEvent, value, ha]
      rfl
    have hcoasted : (Ix.all.filter (m.coastsOut s.cfg.tracking s.trk scan.position)).map
          (fun k => coastedOutEvent k (m.tracks.get k)) =
        (slots.filter coastedOut).map fun k => .trackEnded k (idOf k) .coastedOut (before k).lastHit none := by
      rw [← funext hcoasts]
      refine List.map_congr_left fun k hk => ?_
      obtain ⟨hcoasting, -⟩ := (Matching.coastsOut_iff _ _ _ _ _).mp ((hcoasts k).symm.trans (List.mem_filter.mp hk).2)
      rw [hidOf, hcoasting, coastedOutEvent, hlastHit]
      rfl
    have hdoubled : (Ix.all.flatMap fun j => (Ix.all.filter (Machine.loses s.cfg.tracking
            (afterMerging s.cfg.tracking s.trk scan.position m).tracks j)).map
          (duplicateEvent (afterMerging s.cfg.tracking s.trk scan.position m).tracks j)) =
        doubled.map fun p => .trackEnded p.2 (idOf p.2) .duplicate (lastHit p.2) (after p.1).wireId := by
      rw [List.flatMap_def, List.map_flatten, List.map_map]
      refine congrArg List.flatten (List.map_congr_left fun j _ => ?_)
      rw [← funext (hloses j), Function.comp_apply, List.map_map]
      refine List.map_congr_left fun k hk => ?_
      have hl := (hloses j k).symm.trans (List.mem_filter.mp hk).2
      have hwon : (after j).wireId = ((afterMerging s.cfg.tracking s.trk scan.position m).tracks.get j).wireId := by
        rw [hafter, hdup.won j (Ix.mem_all j) k hl]
      rw [(duplicateEvent_eq _ _ _ _ hl).1, ← hidOf, Function.comp_apply, hwon, hlastHit]
    have hevents : (runSteps s.cfg.tracking s.trk scan.position m).events = events := by
      rw [runSteps_events hm, hconfirmed, hcoasted, hdoubled]
    have hfull : (runSteps s.cfg.tracking s.trk scan.position m).full =
        (starting.drop open_.length).map fun r => roundDiv r.ret.s 100 := by
      rw [runSteps_full hm, ← hopen, ← hstarting]
    rw [foldl_rep fun q b => q.produce s.pos (BitVec.ofNat 32 (s.clock / 4000)) scan.position b]
    refine (State.track_besides scan s).trans ?_
    rw [State.raiseSlotsFull_eq]
    change (runSteps s.cfg.tracking s.trk scan.position m).full.foldl _ { s with
      rep := (runSteps s.cfg.tracking s.trk scan.position m).events.foldl _ s.rep } = _
    rw [hfull, hevents, List.foldl_map]
    rfl

end Sys2Proof.Machine
end
